-- ==== Sys2Proof/Word.lean ====
section
/-! DEFINITION. The plainest types of the part: octets, handles, stages. Quantities (link current in LU, ‰ of rated
current, times) are numbers, not bit vectors: the manual computes with them exactly and never lets them wrap (0.5). -/

namespace Sys2Proof

/-- One octet of a frame on the drive link or the supply line (R160). -/
abbrev Octet := BitVec 8

/-- The number of a claim, 0 to 15 (R1). -/
abbrev Handle := Fin 16

/-- The number of a power stage, 0 to 11 (R9). -/
abbrev Stage := Fin 12

/-- A speed band, 0 to 7 (0.4). -/
abbrev Band := Fin 8

/-- The sixteen handles in ascending order. -/
def Handle.all : List Handle := [0, 1, 2, 3, 4, 5, 6, 7, 8, 9, 10, 11, 12, 13, 14, 15]

end Sys2Proof
end

