-- ==== Sys2Proof/Syntax.lean ====
section
/-! DEFINITION. The commands: one constructor per row of spec/opcode_table.json, with its operands. -/

namespace Sys2Proof

/-- One character as received: its octet and whether its stop bit was missing (a character fault, R160). -/
structure LineChar where
  octet : Octet
  faulted : Bool
  deriving DecidableEq, Repr

/-- A drive link frame whose header is complete: all but the verb code, which the command's constructor gives. `body` is
every character after the two header octets, payload and frame check alike (R163, R165). -/
structure Frame where
  /-- Time in ns from the last character of the frame before to the first of this one (R162). -/
  gapNs : Nat
  /-- The frame arrives while the part's own reply is on the line: it begins before the reply's last character has passed
  and the line has then stood idle for 2 µs (R160 to R162, R171). No clock runs in the model, so the frame says it (log 6). -/
  duringReply : Bool
  station : BitVec 3
  handle : BitVec 4
  urgent : Bool
  headerCheck : BitVec 3
  /-- One of the two header octets bore a character fault (R163). -/
  headerFaulted : Bool
  body : List LineChar
  deriving DecidableEq, Repr

/-- A drive link frame as bare characters, which need not hold a whole header. -/
structure RawFrame where
  gapNs : Nat
  /-- As for `Frame`. -/
  duringReply : Bool
  chars : List LineChar
  deriving DecidableEq, Repr

/-- What the current-sense and rotor angle inputs of one stage give at an expiry (R129): three phase currents in ‰, the
rotor angle, and the torque-producing component of the currents along the axis of that angle. The manual states no
formula for that component, so the sample carries it (log 8). -/
structure StageSample where
  phaseA : Int
  phaseB : Int
  phaseC : Int
  angle : Nat
  torque : Int
  deriving DecidableEq, Repr

/-- Levels of the input pins at the end of a power-on reset (R154, R164); bit n of `stageFaults` is stage n's input. -/
structure InputLevels where
  straps : BitVec 2
  safeOff : Bool
  stageFaults : BitVec 12
  deriving DecidableEq, Repr

/-- The two copies of a record part (R55). -/
inductive CopyName where
  | primary
  | shadow
  deriving DecidableEq, Repr

/-- What a cell upset strikes (R55): a part of a claim, the envelope at a depth counted from 1 at the bottom, or a free
cell. -/
inductive UpsetTarget where
  | base (h : Handle)
  | optional (h : Handle)
  | envelope (depth : Nat)
  | freeCell
  deriving DecidableEq, Repr

/-- The steps of the part, in the order of spec/opcode_table.json. -/
inductive Instr where
  | powerOnReset (levels : InputLevels)
  | demand (f : Frame)
  | cycle (f : Frame)
  | stop (f : Frame)
  | lookup (f : Frame)
  | status (f : Frame)
  | readNotice (f : Frame)
  | configure (f : Frame)
  | resetLink (f : Frame)
  | bind (f : Frame)
  | modify (f : Frame)
  | retire (f : Frame)
  | resume (f : Frame)
  | push (f : Frame)
  | pop (f : Frame)
  | headerError (f : RawFrame)
  | unknownVerb (code : BitVec 5) (f : Frame)
  | passedOverFrame (f : RawFrame)
  | bindTaken
  | modifyTaken
  | retireTaken
  | resumeTaken
  | pushTaken
  | popTaken
  | passStart
  | passCompletion
  | refreshTimerExpiry (h : Handle)
  | brakeTimerExpiry (h : Handle)
  | regulationExpiry (stage : Stage) (own partner : StageSample)
  | tripReport (stage : Stage)
  | releaseCompletion (stage : Stage)
  | stageFaultAsserted (stage : Stage)
  | stageFaultReleased (stage : Stage)
  | safeOffAsserted
  | safeOffReleased
  | supplyFrame (chars : List LineChar)
  | supplyTimeoutExpiry
  | cellUpset (target : UpsetTarget) (copy : CopyName)
  deriving DecidableEq, Repr

end Sys2Proof
end

