-- ==== Sys2Proof/Decode.lean ====
section
/-! DEFINITION. Commands from words: no row of spec/opcode_table.json gives bits, so no word spells a command (log 25). -/

namespace Sys2Proof

/-- The command an instruction word spells by the table's bits: none, since every row's "fields" are empty. -/
def decodeTableWord (_nbits _w : Nat) : Option Instr := none

end Sys2Proof
end

