-- ==== Sys2Proof/Config.lean ====
section
/-! DEFINITION. The figures the manual fixes for every CC412. The manual leaves no value free that a step computes: what
it does not compute itself (phase currents, torque-producing current, rotor angle, input levels) comes with the command
that samples it (log 8), so this file holds no opaque constant. -/

namespace Sys2Proof.Config

/-- Places of the urgent queue (R107). -/
def urgentPlaces : Nat := 4
/-- Places of the normal queue (R107). -/
def normalPlaces : Nat := 8
/-- Places of the notice FIFO (R185). -/
def noticePlaces : Nat := 16
/-- Cells of record memory (R52). -/
def cells : Nat := 32
/-- Greatest depth of the envelope stack (R67). -/
def stackPlaces : Nat := 8
/-- Greatest link current in LU (0.5). -/
def maxLink : Nat := 4000
/-- Greatest magnitude of a demand in ‰ (0.5). -/
def maxDemand : Nat := 2000
/-- Maximum of a saturating counter of one octet (R63, R108, R145, R172, R184, R186). -/
def octetMax : Nat := 255
/-- Maximum of the shortfall counter (R118). -/
def shortfallMax : Nat := 65535
/-- Greatest length of a command frame in octets (R161, R167). -/
def longestFrame : Nat := 72
/-- Greatest gap, in ns, between the last character of a command and a reply to it (R162: 5 µs). -/
def replyWindowNs : Nat := 5000
/-- Least idle, in ns, that ends a frame (R161: 2 µs). -/
def frameIdleNs : Nat := 2000

end Sys2Proof.Config
end

