-- ==== Sys2Proof/Machine/State.lean ====
section
/-! DEFINITION. Everything the manual gives the part to hold, block by block, as plain data, and the state after a
power-on reset. -/

namespace Sys2Proof.Machine

/-! ### Claims (chapter The Claim Record) -/

/-- The seven states of a claim (R22). -/
inductive ClaimState where
  | unbound | run | stale | releasing | braking | halted | tripped
  deriving DecidableEq, Repr

/-- The class of a claim (R2). -/
inductive ClaimClass where
  | axis | spindle | pair
  deriving DecidableEq, Repr

/-- The motion sign reported with a demand (0.4). -/
inductive MotionSign where
  | still | fwd | rev
  deriving DecidableEq, Repr

/-- The side of the DC link a claim draws on (R12). -/
inductive DrawSide where
  | drive | ret
  deriving DecidableEq, Repr

/-- Why a claim is TRIPPED (R8). -/
inductive TripReason where
  | overcurrent | stageFault | imbalance | recordLost | safeOff
  deriving DecidableEq, Repr

/-- Whether a record part or envelope can still be read (R10, R66). -/
inductive Condition where
  | intact | lost
  deriving DecidableEq, Repr

/-- A timer: running with the time remaining, or stopped (R8, R146). No clock runs in the model: the time remaining is
the time last loaded (log 1). -/
inductive Timer where
  | stopped
  | running (remaining : Nat)
  deriving DecidableEq, Repr

/-- The three flags of a base part (R5), also a MODIFY's set and clear masks (R17). -/
structure Flags where
  hold : Bool
  cutExempt : Bool
  shortNotice : Bool
  deriving DecidableEq, Repr

/-- The base part of a claim's configuration (1.2). The coefficient lists hold one value for each band 0 to 7. -/
structure BaseRecord where
  cls : ClaimClass
  level : Nat
  floor : Nat
  currentLimit : Nat
  tripLevel : Nat
  holdDemand : Int
  refreshWindow : Nat
  releaseStep : Nat
  brakeTime : Nat
  kp : Nat
  ki : Nat
  integratorLimit : Nat
  motoring : List Nat
  regenerating : List Nat
  flags : Flags
  deriving DecidableEq, Repr

/-- The optional part: the field-weakening part of a SPINDLE (R6) or the pair part of a PAIR (R7). -/
inductive OptionalRecord where
  | weakening (startBand : Nat) (limits : List Nat)
  | pair (partner : Stage) (balanceLimit : Nat) (balanceTime : Nat)
  deriving DecidableEq, Repr

/-- The stage map of a bound claim (R9); a partner stage for PAIR only. -/
structure StageMap where
  cls : ClaimClass
  primary : Stage
  partner : Option Stage
  deriving DecidableEq, Repr

/-- The dynamic part of a handle entry (R8). `refreshWindow` is the full window the refresh timer is loaded with: RESUME
loads it and makes no read of the record (R35, R60), so the entry holds it (log 10). -/
structure Claim where
  state : ClaimState
  stageMap : Option StageMap
  demand : Int
  sign : MotionSign
  band : Band
  estimate : Nat
  side : DrawSide
  driveGrant : Nat
  returnGrant : Nat
  releaseBasis : Option Int
  tripReason : Option TripReason
  condition : Option Condition
  floorHeld : Option Nat
  refreshWindow : Option Nat
  refreshTimer : Timer
  brakeTimer : Timer
  deriving DecidableEq, Repr

/-- The values of an UNBOUND entry (R8, third column). -/
def Claim.unbound : Claim where
  state := .unbound
  stageMap := none
  demand := 0
  sign := .still
  band := 0
  estimate := 0
  side := .drive
  driveGrant := 0
  returnGrant := 0
  releaseBasis := none
  tripReason := none
  condition := none
  floorHeld := none
  refreshWindow := none
  refreshTimer := .stopped
  brakeTimer := .stopped

/-! ### Record memory (chapter Record Memory) -/

/-- One copy of a record part: its values, and whether they agree with its check code (R55; log 9). -/
structure Copy (α : Type) where
  value : α
  good : Bool
  deriving DecidableEq, Repr

/-- A record part: its primary and its shadow copy (R55). -/
structure Part (α : Type) where
  primary : Copy α
  shadow : Copy α
  deriving DecidableEq, Repr

/-- The record parts of one claim (R2). -/
structure ClaimRecords where
  base : Option (Part BaseRecord)
  optional : Option (Part OptionalRecord)
  deriving DecidableEq, Repr

/-- No record part exists (R52). -/
def ClaimRecords.none : ClaimRecords := ⟨Option.none, Option.none⟩

/-- The record memory: its free count, its repair counter (R52, R63) and the record parts of the claims. The record part
of an envelope stands in its stack entry. -/
structure RecordMemory where
  free : Nat
  repairs : Nat
  records : Vector ClaimRecords 16
  deriving DecidableEq, Repr

/-! ### Envelopes, budgets and passes -/

/-- The values of an envelope's record part (R66). -/
structure Envelope where
  tag : Nat
  driveLimit : Nat
  returnLimit : Nat
  cut : Nat
  deriving DecidableEq, Repr

/-- One entry of the envelope stack: its record part and its condition (R66). -/
structure StackEntry where
  part : Part Envelope
  condition : Condition
  deriving DecidableEq, Repr

/-- The budgets in force and the cut (R75). -/
structure Budgets where
  drive : Nat
  ret : Nat
  cut : Option Nat
  deriving DecidableEq, Repr

/-- The state of the supply (R146). -/
inductive SupplyState where
  | absent | normal | fault
  deriving DecidableEq, Repr

/-- The reason held with the state of the supply (R146). -/
inductive SupplyReason where
  | recovered | notReady | belowFloor | timeout
  deriving DecidableEq, Repr

/-- The table's standing of the supply (R74). -/
structure Standing where
  state : SupplyState
  availDrive : Nat
  availReturn : Nat
  deriving DecidableEq, Repr

/-- The part state (R177). -/
inductive PartState where
  | unconfigured | ready
  deriving DecidableEq, Repr

/-- What the claim table holds beside its sixteen entries (R4, R66, R74, R75, R154, R177). The stack's oldest entry stands
first, so the top is the last. -/
structure Table where
  partState : PartState
  g : Nat
  floorSum : Nat
  stack : List StackEntry
  budgets : Budgets
  standing : Standing
  safeOff : Bool
  deriving DecidableEq, Repr

/-- One entry of a snapshot (R90). -/
structure SnapshotEntry where
  handle : Handle
  level : Nat
  cls : ClaimClass
  floor : Nat
  estimate : Nat
  side : DrawSide
  cutExempt : Bool
  deriving DecidableEq, Repr

/-- A snapshot (R90). -/
structure Snapshot where
  budgets : Budgets
  entries : List SnapshotEntry
  deriving DecidableEq, Repr

/-- The grants computed for one claim of a snapshot (R93, R94). -/
structure GrantLine where
  handle : Handle
  drive : Nat
  ret : Nat
  deriving DecidableEq, Repr

/-- What the allotment unit holds of the one pass in flight (R85): the snapshot, the remainders and the grants. -/
structure Pass where
  snapshot : Snapshot
  driveRemainder : Nat
  returnRemainder : Nat
  grants : List GrantLine
  deriving DecidableEq, Repr

/-- The bookkeeping of grant passes (R84); a pass is in flight when the unit holds one. -/
structure PassBook where
  inFlight : Option Pass
  wanted : Bool
  void : Bool
  rerun : Bool
  driveSlack : Nat
  returnSlack : Nat
  deriving DecidableEq, Repr

/-! ### Link port -/

/-- The fourteen verbs (9.10.1). -/
inductive Verb where
  | demand | cycle | stop | lookup | status | readNotice | configure | resetLink
  | bind | modify | retire | resume | push | pop
  deriving DecidableEq, Repr

/-- The fields of a BIND (R14). -/
structure BindFields where
  primary : Stage
  base : BaseRecord
  optional : Option OptionalRecord
  deriving DecidableEq, Repr

/-- The fields of a MODIFY (R17); a value is absent where its presence mark is clear. -/
structure ModifyFields where
  level : Option Nat
  floor : Option Nat
  currentLimit : Option Nat
  tripLevel : Option Nat
  holdDemand : Option Int
  setFlags : Flags
  clearFlags : Flags
  deriving DecidableEq, Repr

/-- The verb of a structural request with its payload fields (R107). -/
inductive RequestBody where
  | bind (fields : BindFields)
  | modify (fields : ModifyFields)
  | retire
  | resume
  | push (envelope : Envelope)
  | pop (tag : Nat)
  deriving DecidableEq, Repr

/-- A waiting structural request (R107). -/
structure Request where
  handle : Handle
  body : RequestBody
  deriving DecidableEq, Repr

/-- The outcome a DONE notice carries (9.10.2). -/
inductive DoneOutcome where
  | ok | handleInUse | noClaim | wrongState | safeOff | noSupply | stageInUse | floorConflict | limitConflict
  | poolFull | stackFull | baseOnly | tagMismatch
  deriving DecidableEq, Repr

/-- A notice (R185). The subject of DONE is the handle, or the tag for PUSH and POP. -/
inductive Notice where
  | done (subject : Nat) (verb : Verb) (outcome : DoneOutcome)
  | stale (h : Handle)
  | halted (h : Handle)
  | tripped (h : Handle) (reason : TripReason)
  | released (h : Handle)
  | repairedBase (h : Handle)
  | repairedOptional (h : Handle)
  | repairedEnvelope (depth : Nat)
  | envelopeLost (depth : Nat)
  | supply (state : SupplyState) (reason : Option SupplyReason)
  | short (h : Handle)
  deriving DecidableEq, Repr

/-- What the link port holds (R107, R108, R162, R160, R162, R164, R172, R184 to R186). `driverOn` is the line driver, on
for a reply; no clock runs in the model, so it stands on until a frame arrives that the reply does not cover (log 6). `sent`
is the reply frame the port sent for the last frame it took, empty when that frame earned none (log 7). -/
structure LinkPort where
  station : BitVec 2
  urgent : List Request
  normal : List Request
  notices : List Notice
  headerErrors : Nat
  frameErrors : Nat
  formatErrors : Nat
  dropped : Nat
  lostNotices : Nat
  cycleRefusals : Nat
  replyExpected : Bool
  driverOn : Bool
  sent : List Octet
  deriving DecidableEq, Repr

/-! ### Channels -/

/-- The part a stage plays in its claim (R118). -/
inductive Role where
  | primary | partner
  deriving DecidableEq, Repr

/-- The owner a channel has recorded (R118). -/
structure Owner where
  handle : Handle
  role : Role
  deriving DecidableEq, Repr

/-- The drive mode last commanded (R118). -/
inductive DriveMode where
  | regulate | brake | off
  deriving DecidableEq, Repr

/-- The gate outputs of a stage (R118). A driven stage's voltage is directed along the torque axis at the rotor angle
sampled at the expiry (R132), which stays with it until the next. -/
inductive Gates where
  | off
  | driving (angle : Nat)
  | brakingPattern
  deriving DecidableEq, Repr

/-- What a regulation channel holds (R118). `brakeEngaged` is its brake output. -/
structure Channel where
  owner : Option Owner
  mode : DriveMode
  faultHold : Bool
  gates : Gates
  duty : Int
  integrator : Int
  ramped : Int
  imbalance : Nat
  shortfall : Nat
  shortFlag : Bool
  brakeEngaged : Bool
  deriving DecidableEq, Repr

/-- A channel after a power-on reset (R118). -/
def Channel.initial : Channel where
  owner := none
  mode := .off
  faultHold := false
  gates := .off
  duty := 0
  integrator := 0
  ramped := 0
  imbalance := 0
  shortfall := 0
  shortFlag := false
  brakeEngaged := true

/-- What a channel reports to the claim table (R47, R136). -/
inductive ReportKind where
  | trip (reason : TripReason)
  | releaseComplete
  deriving DecidableEq, Repr

/-- A report on its way to the claim table: the stage, the owner the channel had recorded, and what it says (R140). -/
structure Report where
  stage : Stage
  handle : Handle
  kind : ReportKind
  deriving DecidableEq, Repr

/-! ### Supply monitor and inputs -/

/-- What the supply monitor holds (R146). -/
structure Monitor where
  state : SupplyState
  reason : Option SupplyReason
  lastDrive : Nat
  lastReturn : Nat
  lastReady : Bool
  g : Nat
  timeout : Option Nat
  timer : Timer
  checkErrors : Nat
  deriving DecidableEq, Repr

/-- The levels of the protective inputs: the safe-off input (R154) and the twelve stage fault inputs (R138). -/
structure Inputs where
  safeOff : Bool
  stageFaults : Vector Bool 12
  deriving DecidableEq, Repr

/-! ### The machine -/

/-- The whole part: its six blocks, its inputs, the reports under way and the queue of commands. -/
structure State where
  link : LinkPort
  claims : Vector Claim 16
  table : Table
  passes : PassBook
  memory : RecordMemory
  channels : Vector Channel 12
  reports : List Report
  monitor : Monitor
  inputs : Inputs
  pending : List Instr
  deriving DecidableEq, Repr

/-- No step of the part stops with a fault: the manual gives every step an effect (INVENTORY.md, Faults). -/
inductive Fault where
  deriving DecidableEq, Repr

/-- Refusals: only the rejection by name of a command not modelled yet, which no arm of `exec` answers. -/
inductive Refusal where
  /-- Raised by `exec` for a command without a meaning; safe, since nothing is claimed of its effect. -/
  | notModelled (mnemonic : String)
  deriving DecidableEq, Repr

/-- The link port after a power-on reset (R107, R108, R172, R175, R184 to R186). -/
def LinkPort.initial (station : BitVec 2) : LinkPort where
  station := station
  urgent := []
  normal := []
  notices := []
  headerErrors := 0
  frameErrors := 0
  formatErrors := 0
  dropped := 0
  lostNotices := 0
  cycleRefusals := 0
  replyExpected := false
  driverOn := false
  sent := []

/-- The claim table after a power-on reset (R4, R67, R74, R75, R154, R177). -/
def Table.initial (safeOff : Bool) : Table where
  partState := .unconfigured
  g := 0
  floorSum := 0
  stack := []
  budgets := ⟨0, 0, none⟩
  standing := ⟨.absent, 0, 0⟩
  safeOff := safeOff

/-- The pass bookkeeping after a power-on reset (R84). -/
def PassBook.initial : PassBook where
  inFlight := none
  wanted := false
  void := false
  rerun := false
  driveSlack := 0
  returnSlack := 0

/-- The supply monitor after a power-on reset (R146). -/
def Monitor.initial : Monitor where
  state := .absent
  reason := none
  lastDrive := 0
  lastReturn := 0
  lastReady := false
  g := 0
  timeout := none
  timer := .stopped
  checkErrors := 0

/-- The part at the end of a power-on reset with the given station straps and input levels (R24, R52, R117, R118, R154,
R164, R175). -/
def State.afterReset (straps : BitVec 2) (inputs : Inputs) : State where
  link := LinkPort.initial straps
  claims := Vector.replicate 16 Claim.unbound
  table := Table.initial inputs.safeOff
  passes := PassBook.initial
  memory := ⟨Config.cells, 0, Vector.replicate 16 ClaimRecords.none⟩
  channels := Vector.replicate 12 Channel.initial
  reports := []
  monitor := Monitor.initial
  inputs := inputs
  pending := []

/-- The machine right after reset. The levels of the straps and inputs are outside levels: DESIGN CHOICE, station 0 and
every protective input released (log 5). -/
def State.reset : State := State.afterReset 0 ⟨false, Vector.replicate 12 false⟩

end Sys2Proof.Machine
end

