-- ==== Sys2Proof/Machine/Flags.lean ====
section
/-! DEFINITION. The computations behind counters, flags and states that several blocks share: saturating counters, live
and bound, the draw side and the estimate. -/

namespace Sys2Proof.Machine

/-- One increment of a counter that stops at `max` (0.5, Counters). -/
def satInc (max n : Nat) : Nat := if n < max then n + 1 else n

/-- `k` increments of such a counter. -/
def satAdd (max n k : Nat) : Nat := if n + k ≤ max then n + k else Nat.max n max

/-- A claim in RUN, STALE or RELEASING is live (R22). -/
def ClaimState.live : ClaimState → Bool
  | .run | .stale | .releasing => true
  | .unbound | .braking | .halted | .tripped => false

/-- A claim in any state but UNBOUND is bound (R22). -/
def ClaimState.bound : ClaimState → Bool
  | .unbound => false
  | .run | .stale | .releasing | .braking | .halted | .tripped => true

/-- Cells of record memory a claim of the class occupies (R2). -/
def ClaimClass.cells : ClaimClass → Nat
  | .axis => 2
  | .spindle | .pair => 3

/-- The draw side from a demand and a motion sign (R12). -/
def drawSide (demand : Int) (sign : MotionSign) : DrawSide :=
  match sign with
  | .still => .drive
  | .fwd => if demand < 0 then .ret else .drive
  | .rev => if 0 < demand then .ret else .drive

/-- The coefficient of a band on a side (R13, R124). -/
def BaseRecord.coefficient (r : BaseRecord) (side : DrawSide) (band : Band) : Nat :=
  match side with
  | .drive => r.motoring.getD band 0
  | .ret => r.regenerating.getD band 0

/-- The least whole number not less than `n / 1000`. -/
def ceilThousandth (n : Nat) : Nat := (n + 999) / 1000

/-- The estimate in LU of a demand in a band (R13). -/
def BaseRecord.estimate (r : BaseRecord) (demand : Int) (sign : MotionSign) (band : Band) : Nat :=
  ceilThousandth (demand.natAbs * r.coefficient (drawSide demand sign) band)

/-- The place of a class in grant order (R86). -/
def ClaimClass.rank : ClaimClass → Nat
  | .pair => 0
  | .axis => 1
  | .spindle => 2

/-- Flags with a MODIFY's set mask added and its clear mask removed (R18). -/
def Flags.modify (f set clear : Flags) : Flags where
  hold := (f.hold || set.hold) && !clear.hold
  cutExempt := (f.cutExempt || set.cutExempt) && !clear.cutExempt
  shortNotice := (f.shortNotice || set.shortNotice) && !clear.shortNotice

/-- `x` held within minus and plus `limit`. -/
def clampTo (limit : Nat) (x : Int) : Int :=
  if (limit : Int) < x then limit else if x < -(limit : Int) then -(limit : Int) else x

end Sys2Proof.Machine
end

