-- ==== Sys2Proof/Machine/Operands.lean ====
section
/-! DEFINITION. The operand forms: header, frame check, payloads and replies of the drive link, in the layouts of 9.10,
and the supply frame. Nothing here looks at a claim. -/

namespace Sys2Proof.Machine

/-! ### Octets and fields (9.10: most significant octet first, signed fields in two's complement) -/

/-- An unsigned field of two octets. -/
def u16 (hi lo : Octet) : Nat := hi.toNat * 256 + lo.toNat

/-- A signed field of two octets. -/
def s16 (hi lo : Octet) : Int := (hi ++ lo : BitVec 16).toInt

/-- The two octets of a 16-bit word. -/
def wordOctets (w : BitVec 16) : List Octet := [w.extractLsb' 8 8, w.extractLsb' 0 8]

/-- A number sent in one octet. -/
def octetOf (n : Nat) : Octet := BitVec.ofNat 8 n

/-- A number sent in two octets. -/
def octets16 (n : Nat) : List Octet := wordOctets (BitVec.ofNat 16 n)

/-- A signed number sent in two octets. -/
def signedOctets16 (x : Int) : List Octet := wordOctets (BitVec.ofInt 16 x)

/-- A mark sent as 1 when set. -/
def markOctet (b : Bool) : Octet := if b then 1 else 0

/-! ### The frame check (R165) -/

/-- One shift of the check register, generator x^16 + x^12 + x^5 + 1. -/
def crcShift (r : BitVec 16) : BitVec 16 := if r.msb then (r <<< 1) ^^^ 0x1021#16 else r <<< 1

/-- The check register after one octet, most significant bit first. -/
def crcOctet (r : BitVec 16) (o : Octet) : BitVec 16 :=
  crcShift (crcShift (crcShift (crcShift (crcShift (crcShift (crcShift (crcShift (r ^^^ (o ++ 0#8)))))))))

/-- The check over a list of octets; the register starts at all ones and is not inverted at the end. -/
def frameCheck (os : List Octet) : BitVec 16 := os.foldl crcOctet 0xFFFF#16

/-- The octets of a frame less the two that close it, and those two; none when there are fewer than two. -/
def splitCheck (os : List Octet) : Option (List Octet × Octet × Octet) :=
  match os.reverse with
  | lo :: hi :: rest => some (rest.reverse, hi, lo)
  | _ => none

/-! ### Verbs and the header (R163, 9.10.1) -/

/-- The code of a verb. -/
def Verb.code : Verb → BitVec 5
  | .demand => 0x01
  | .cycle => 0x02
  | .stop => 0x03
  | .lookup => 0x04
  | .status => 0x05
  | .readNotice => 0x06
  | .configure => 0x07
  | .resetLink => 0x08
  | .bind => 0x10
  | .modify => 0x11
  | .retire => 0x12
  | .resume => 0x13
  | .push => 0x14
  | .pop => 0x15

/-- The fourteen verbs, in the order of 9.10.1. -/
def Verb.all : List Verb :=
  [.demand, .cycle, .stop, .lookup, .status, .readNotice, .configure, .resetLink, .bind, .modify, .retire, .resume,
    .push, .pop]

/-- The verb of a code; none when it is unknown (R167). -/
def Verb.ofCode (c : BitVec 5) : Option Verb := Verb.all.find? (fun v => v.code == c)

/-- A structural verb has the highest bit of its code set (9.10.1). -/
def Verb.structural (v : Verb) : Bool := v.code.msb

/-- The five fields of a header (R163). -/
structure Header where
  station : BitVec 3
  verb : BitVec 5
  handle : BitVec 4
  urgent : Bool
  check : BitVec 3
  deriving DecidableEq, Repr

/-- The number of one bits of a word. -/
def ones {w : Nat} (x : BitVec w) : Nat := (List.range w).countP (fun i => x.getLsbD i)

/-- The header check of four fields: the number of one bits in them, modulo 8 (R163). -/
def headerCheckOf (station : BitVec 3) (verb : BitVec 5) (handle : BitVec 4) (urgent : Bool) : BitVec 3 :=
  BitVec.ofNat 3 (ones station + ones verb + ones handle + urgent.toNat)

/-- The two octets of a header (9.10.1). -/
def Header.octets (h : Header) : List Octet :=
  [h.station ++ h.verb, h.handle ++ BitVec.ofBool h.urgent ++ h.check]

/-- The header two octets hold (9.10.1). -/
def Header.ofOctets (o0 o1 : Octet) : Header where
  station := o0.extractLsb' 5 3
  verb := o0.extractLsb' 0 5
  handle := o1.extractLsb' 4 4
  urgent := o1.getLsbD 3
  check := o1.extractLsb' 0 3

/-- A frame as the link port takes it: its gap, whether the port's own reply covers it, its header (none when the frame is of one octet), whether a header octet
bore a character fault, and the characters after the header. -/
structure PortFrame where
  gapNs : Nat
  duringReply : Bool
  header : Option Header
  headerFaulted : Bool
  body : List LineChar
  deriving DecidableEq, Repr

end Sys2Proof.Machine

namespace Sys2Proof

/-- A command's frame with the verb code of its constructor. -/
def Frame.withCode (f : Frame) (code : BitVec 5) : Machine.PortFrame where
  gapNs := f.gapNs
  duringReply := f.duringReply
  header := some ⟨f.station, code, f.handle, f.urgent, f.headerCheck⟩
  headerFaulted := f.headerFaulted
  body := f.body

/-- A frame of bare characters. -/
def RawFrame.toPort (f : RawFrame) : Machine.PortFrame :=
  match f.chars with
  | c0 :: c1 :: rest => ⟨f.gapNs, f.duringReply, some (Machine.Header.ofOctets c0.octet c1.octet), c0.faulted || c1.faulted, rest⟩
  | cs => ⟨f.gapNs, f.duringReply, none, cs.any (·.faulted), []⟩

end Sys2Proof

namespace Sys2Proof.Machine

/-- The header, when it is good: complete, without character fault, and agreeing with its check (R163). -/
def PortFrame.goodHeader (f : PortFrame) : Option Header :=
  match f.header with
  | none => none
  | some h =>
    if !f.headerFaulted && h.check == headerCheckOf h.station h.verb h.handle h.urgent then some h else none

/-- The payload of a frame that passes its frame check (R165): no character fault after the header, at least the two check
octets, and those equal to the check over header and payload. -/
def PortFrame.checkedPayload (f : PortFrame) (h : Header) : Option (List Octet) :=
  if f.body.any (·.faulted) then none
  else
    match splitCheck (f.body.map (·.octet)) with
    | none => none
    | some (payload, hi, lo) => if frameCheck (h.octets ++ payload) = hi ++ lo then some payload else none

/-- The length of a frame in octets. -/
def PortFrame.length (f : PortFrame) : Nat := 2 + f.body.length

/-! ### The format check (R164, R167) -/

/-- The class of a class octet (9.10.2). -/
def classOfOctet (o : Octet) : Option ClaimClass :=
  if o = 0 then some .axis else if o = 1 then some .spindle else if o = 2 then some .pair else none

/-- The length check of a BIND, found from the payload itself. -/
def bindLengthOk (p : List Octet) : Bool :=
  match p with
  | [] => false
  | c :: _ =>
    match classOfOctet c with
    | none => true
    | some .axis => p.length == 53
    | some .pair => p.length == 57
    | some .spindle =>
      match p[53]? with
      | none => false
      | some s => if 1 ≤ s.toNat ∧ s.toNat ≤ 7 then p.length == 70 - 2 * s.toNat else true

/-- The length check of a payload for its verb (9.10.1). -/
def payloadLengthOk (v : Verb) (p : List Octet) : Bool :=
  match v with
  | .demand => p.length == 3
  | .cycle =>
    match p with
    | [] => false
    | count :: rest => rest.length == 4 * count.toNat
  | .stop => p.length == 1
  | .lookup => p.length == 1
  | .status => p.length == 0
  | .readNotice => p.length == 0
  | .configure => p.length == 7
  | .resetLink => p.length == 0
  | .bind => bindLengthOk p
  | .modify => p.length == 12
  | .retire => p.length == 0
  | .resume => p.length == 0
  | .push => p.length == 6
  | .pop => p.length == 1

/-- The manners of sending R164 allows: a CYCLE is broadcast, and LOOKUP, STATUS and READ-NOTICE are not. -/
def mannerOk (v : Verb) (broadcast : Bool) : Bool :=
  match v with
  | .cycle => broadcast
  | .lookup | .status | .readNotice => !broadcast
  | .demand | .stop | .configure | .resetLink | .bind | .modify | .retire | .resume | .push | .pop => true

/-- The verb of a frame that passes the format check; none when it fails. -/
def formatVerb (f : PortFrame) (code : BitVec 5) (broadcast : Bool) (p : List Octet) : Option Verb :=
  match Verb.ofCode code with
  | none => none
  | some v =>
    if f.length ≤ Config.longestFrame ∧ mannerOk v broadcast = true ∧ payloadLengthOk v p = true then some v else none

/-! ### The range check (R168) and the fields of each payload (9.10.3) -/

/-- The motion sign and band of their octet; none for sign code 3 or a set bit of no field (R168). -/
def parseSignBand (o : Octet) : Option (MotionSign × Band) :=
  if o &&& 0xC8#8 ≠ 0 then none
  else
    let band : Band := (o.extractLsb' 0 3).toFin
    match (o.extractLsb' 4 2).toNat with
    | 0 => some (.still, band)
    | 1 => some (.fwd, band)
    | 2 => some (.rev, band)
    | _ => none

/-- A demand, motion sign and band. -/
structure DemandFields where
  demand : Int
  sign : MotionSign
  band : Band
  deriving DecidableEq, Repr

/-- The fields of a DEMAND or of the last three octets of a CYCLE entry (R29, R183). -/
def parseDemand (hi lo sb : Octet) : Option DemandFields :=
  let d := s16 hi lo
  if d.natAbs ≤ Config.maxDemand then (parseSignBand sb).map (fun (sg, b) => ⟨d, sg, b⟩) else none

/-- One entry of a CYCLE that names this part. -/
structure CycleEntry where
  handle : Handle
  fields : DemandFields
  deriving DecidableEq, Repr

/-- The entries of a CYCLE, four octets each. -/
def cycleQuads : List Octet → List (Octet × Octet × Octet × Octet)
  | a :: b :: c :: d :: rest => (a, b, c, d) :: cycleQuads rest
  | _ => []

/-- The entries of a CYCLE payload whose station field names this part (R168, R183); none are read when the count is 0 or
above 12. -/
def cycleNaming (station : BitVec 2) (p : List Octet) : List (Octet × Octet × Octet × Octet) :=
  match p with
  | [] => []
  | count :: rest =>
    if 1 ≤ count.toNat ∧ count.toNat ≤ 12 then
      (cycleQuads rest).filter (fun q => (q.1.extractLsb' 4 4).toNat == station.toNat)
    else []

/-- The entry of four octets, when its fields are in range. -/
def parseCycleEntry (q : Octet × Octet × Octet × Octet) : Option CycleEntry :=
  (parseDemand q.2.1 q.2.2.1 q.2.2.2).map (fun d => ⟨(q.1.extractLsb' 0 4).toFin, d⟩)

/-- The entries of a CYCLE naming this part; none when the count or an entry naming this part is out of range. -/
def parseCycle (station : BitVec 2) (p : List Octet) : Option (List CycleEntry) :=
  match p with
  | [] => none
  | count :: _ =>
    if 1 ≤ count.toNat ∧ count.toNat ≤ 12 then (cycleNaming station p).mapM parseCycleEntry else none

/-- The fields of a CONFIGURE (R180). -/
structure ConfigureFields where
  g : Nat
  driveLimit : Nat
  returnLimit : Nat
  timeout : Nat
  deriving DecidableEq, Repr

/-- The fields of a CONFIGURE in range (R180). -/
def parseConfigure (p : List Octet) : Option ConfigureFields :=
  match p with
  | [a, b, c, d, e, f, t] =>
    let x : ConfigureFields := ⟨u16 a b, u16 c d, u16 e f, t.toNat⟩
    if x.g ≤ Config.maxLink ∧ x.g ≤ x.driveLimit ∧ x.driveLimit ≤ Config.maxLink ∧ x.returnLimit ≤ Config.maxLink
        ∧ 2 ≤ x.timeout ∧ x.timeout ≤ 50 then some x else none
  | _ => none

/-- The flags of a flags or mask octet; none when a bit of no field is set. -/
def parseFlags (o : Octet) : Option Flags :=
  if o &&& 0xF8#8 ≠ 0 then none else some ⟨o.getLsbD 0, o.getLsbD 1, o.getLsbD 2⟩

/-- A stage number in range. -/
def parseStage (o : Octet) : Option Stage := if h : o.toNat < 12 then some ⟨o.toNat, h⟩ else none

/-- The octet of a payload at an index. -/
def octetAt (p : List Octet) (i : Nat) : Octet := p.getD i 0

/-- The two-octet field of a payload at an index. -/
def fieldAt (p : List Octet) (i : Nat) : Nat := u16 (octetAt p i) (octetAt p (i + 1))

/-- `n` two-octet fields of a payload from an index. -/
def fieldsFrom (p : List Octet) (i : Nat) : Nat → List Nat
  | 0 => []
  | n + 1 => fieldAt p i :: fieldsFrom p (i + 2) n

/-- The ranges of the base part (1.2). -/
def BaseRecord.inRange (r : BaseRecord) : Bool :=
  decide (1 ≤ r.level ∧ r.level ≤ 7) && decide (r.floor ≤ 4000)
    && decide (100 ≤ r.currentLimit ∧ r.currentLimit ≤ 2000)
    && decide (r.currentLimit < r.tripLevel ∧ r.tripLevel ≤ 3000)
    && decide (r.holdDemand.natAbs ≤ r.currentLimit)
    && decide (1 ≤ r.refreshWindow ∧ r.refreshWindow ≤ 255) && decide (1 ≤ r.releaseStep ∧ r.releaseStep ≤ 255)
    && decide (1 ≤ r.brakeTime ∧ r.brakeTime ≤ 255)
    && decide (r.kp ≤ 4095) && decide (r.ki ≤ 4095) && decide (r.integratorLimit ≤ 1000)
    && r.motoring.all (· ≤ 1000) && r.regenerating.all (· ≤ 1000)

/-- The base part of a BIND payload (9.10.3), its ranges not yet checked. -/
def bindBase (p : List Octet) (cls : ClaimClass) (flags : Flags) : BaseRecord where
  cls := cls
  level := (octetAt p 2).toNat
  floor := fieldAt p 3
  currentLimit := fieldAt p 5
  tripLevel := fieldAt p 7
  holdDemand := s16 (octetAt p 9) (octetAt p 10)
  refreshWindow := (octetAt p 11).toNat
  releaseStep := (octetAt p 12).toNat
  brakeTime := (octetAt p 13).toNat
  kp := fieldAt p 14
  ki := fieldAt p 16
  integratorLimit := fieldAt p 18
  motoring := fieldsFrom p 20 8
  regenerating := fieldsFrom p 36 8
  flags := flags

/-- The optional part of a BIND payload, in range for its class (R6, R7, R14): `none` when out of range. -/
def bindOptional (p : List Octet) (base : BaseRecord) (primary : Stage) : Option (Option OptionalRecord) :=
  match base.cls with
  | .axis => some none
  | .spindle =>
    let s := (octetAt p 53).toNat
    let limits := fieldsFrom p 54 (8 - s)
    if (1 ≤ s ∧ s ≤ 7) ∧ limits.all (fun x => decide (100 ≤ x ∧ x ≤ base.currentLimit)) = true then
      some (some (.weakening s limits))
    else none
  | .pair =>
    match parseStage (octetAt p 53) with
    | none => none
    | some partner =>
      if partner ≠ primary ∧ 10 ≤ fieldAt p 54 ∧ fieldAt p 54 ≤ 1000 ∧ 1 ≤ (octetAt p 56).toNat then
        some (some (.pair partner (fieldAt p 54) (octetAt p 56).toNat))
      else none

/-- The fields of a BIND in range (R14). -/
def parseBind (p : List Octet) : Option BindFields :=
  match classOfOctet (octetAt p 0), parseStage (octetAt p 1), parseFlags (octetAt p 52) with
  | some cls, some primary, some flags =>
    let base := bindBase p cls flags
    if base.inRange then (bindOptional p base primary).map (fun o => ⟨primary, base, o⟩) else none
  | _, _, _ => none

/-- A value of a MODIFY: absent when its mark is clear; out of range when marked and not within the bounds. -/
def markedValue (mark : Bool) (lo hi x : Nat) : Option (Option Nat) :=
  if mark then (if lo ≤ x ∧ x ≤ hi then some (some x) else none) else some none

/-- The hold demand of a MODIFY, likewise. -/
def markedHold (mark : Bool) (x : Int) : Option (Option Int) :=
  if mark then (if x.natAbs ≤ Config.maxDemand then some (some x) else none) else some none

/-- No flag is named in both masks (R17). -/
def Flags.disjoint (a b : Flags) : Bool :=
  !(a.hold && b.hold) && !(a.cutExempt && b.cutExempt) && !(a.shortNotice && b.shortNotice)

/-- The fields of a MODIFY in range (R17). -/
def parseModify (p : List Octet) : Option ModifyFields :=
  let marks := octetAt p 0
  if marks &&& 0xE0#8 ≠ 0 then none
  else
    match markedValue (marks.getLsbD 0) 1 7 (octetAt p 1).toNat, markedValue (marks.getLsbD 1) 0 4000 (fieldAt p 2),
      markedValue (marks.getLsbD 2) 100 2000 (fieldAt p 4), markedValue (marks.getLsbD 3) 101 3000 (fieldAt p 6),
      markedHold (marks.getLsbD 4) (s16 (octetAt p 8) (octetAt p 9)), parseFlags (octetAt p 10),
      parseFlags (octetAt p 11) with
    | some level, some floor, some limit, some trip, some hold, some set, some clear =>
      if set.disjoint clear then some ⟨level, floor, limit, trip, hold, set, clear⟩ else none
    | _, _, _, _, _, _, _ => none

/-- The envelope of a PUSH in range (R69). -/
def parsePush (p : List Octet) : Option Envelope :=
  match p with
  | [t, a, b, c, d, cut] =>
    if 1 ≤ t.toNat ∧ u16 a b ≤ Config.maxLink ∧ u16 c d ≤ Config.maxLink ∧ 1 ≤ cut.toNat ∧ cut.toNat ≤ 7 then
      some ⟨t.toNat, u16 a b, u16 c d, cut.toNat⟩
    else none
  | _ => none

/-- A command that has passed the format and range checks. A STOP names a handle or, with none, ALL. -/
inductive Command where
  | demand (h : Handle) (d : DemandFields)
  | cycle (entries : List CycleEntry)
  | stop (scope : Option Handle)
  | lookup (h : Handle) (clear : Bool)
  | status
  | readNotice
  | configure (fields : ConfigureFields)
  | resetLink
  | structural (urgent : Bool) (r : Request)
  deriving DecidableEq, Repr

/-- The range check: the command of a payload all of whose fields are in range, none otherwise (R168). -/
def parseCommand (v : Verb) (station : BitVec 2) (h : Handle) (urgent : Bool) (p : List Octet) : Option Command :=
  match v with
  | .demand =>
    match p with
    | [hi, lo, sb] => (parseDemand hi lo sb).map (.demand h)
    | _ => none
  | .cycle => (parseCycle station p).map .cycle
  | .stop =>
    if p = [0] then some (.stop (some h)) else if p = [1] then some (.stop none) else none
  | .lookup => if p = [0] then some (.lookup h false) else if p = [1] then some (.lookup h true) else none
  | .status => some .status
  | .readNotice => some .readNotice
  | .configure => (parseConfigure p).map .configure
  | .resetLink => some .resetLink
  | .bind => (parseBind p).map (fun b => .structural urgent ⟨h, .bind b⟩)
  | .modify => (parseModify p).map (fun m => .structural urgent ⟨h, .modify m⟩)
  | .retire => some (.structural urgent ⟨h, .retire⟩)
  | .resume => some (.structural urgent ⟨h, .resume⟩)
  | .push => (parsePush p).map (fun e => .structural urgent ⟨h, .push e⟩)
  | .pop =>
    match p with
    | [t] => some (.structural urgent ⟨h, .pop t.toNat⟩)
    | _ => none

/-- The verb of a waiting request (R107). -/
def RequestBody.verb : RequestBody → Verb
  | .bind _ => .bind
  | .modify _ => .modify
  | .retire => .retire
  | .resume => .resume
  | .push _ => .push
  | .pop _ => .pop

/-! ### Replies and value codes (R170, 9.10.2) -/

/-- The ten status codes (R178). -/
inductive Status where
  | ok | queued | empty | illegal | formatError | checkError | queueFull | unconfigured | noClaim | wrongState
  deriving DecidableEq, Repr

/-- The code of a status. -/
def Status.code : Status → BitVec 4
  | .ok => 0
  | .queued => 1
  | .empty => 2
  | .illegal => 3
  | .formatError => 4
  | .checkError => 5
  | .queueFull => 6
  | .unconfigured => 7
  | .noClaim => 8
  | .wrongState => 9

/-- A reply frame: status octet, echo octet, payload and frame check over them (R170). -/
def replyFrame (verb : BitVec 5) (handle : BitVec 4) (st : Status) (payload : List Octet) : List Octet :=
  let covered : List Octet :=
    (BitVec.ofBool verb.msb ++ 0#3 ++ st.code : Octet) :: (handle ++ verb.extractLsb' 0 4 : Octet) :: payload
  covered ++ wordOctets (frameCheck covered)

/-- The code of a claim state. -/
def ClaimState.code : ClaimState → Octet
  | .unbound => 0
  | .run => 1
  | .stale => 2
  | .releasing => 3
  | .braking => 4
  | .halted => 5
  | .tripped => 6

/-- The code of a part state. -/
def PartState.code : PartState → Octet
  | .unconfigured => 0
  | .ready => 1

/-- The code of a class. -/
def ClaimClass.code : ClaimClass → Octet
  | .axis => 0
  | .spindle => 1
  | .pair => 2

/-- The motion sign and band octet. -/
def signBandOctet (sign : MotionSign) (band : Band) : Octet :=
  let code : BitVec 2 := match sign with | .still => 0 | .fwd => 1 | .rev => 2
  0#2 ++ code ++ 0#1 ++ BitVec.ofFin (w := 3) band

/-- The code of a draw side. -/
def DrawSide.code : DrawSide → Octet
  | .drive => 0
  | .ret => 1

/-- The code of a record condition. -/
def Condition.code : Condition → Octet
  | .intact => 0
  | .lost => 1

/-- The flags octet. -/
def Flags.octet (f : Flags) : Octet :=
  0#5 ++ BitVec.ofBool f.shortNotice ++ BitVec.ofBool f.cutExempt ++ BitVec.ofBool f.hold

/-- The code of a trip reason. -/
def TripReason.code : TripReason → Octet
  | .overcurrent => 1
  | .stageFault => 2
  | .imbalance => 3
  | .recordLost => 4
  | .safeOff => 5

/-- The code of a supply state. -/
def SupplyState.code : SupplyState → Octet
  | .absent => 0
  | .normal => 1
  | .fault => 2

/-- The code of a supply reason, 0 for none. -/
def supplyReasonCode : Option SupplyReason → Octet
  | none => 0
  | some .recovered => 1
  | some .notReady => 2
  | some .belowFloor => 3
  | some .timeout => 4

/-- The code of a DONE outcome. -/
def DoneOutcome.code : DoneOutcome → Octet
  | .ok => 0
  | .handleInUse => 1
  | .noClaim => 2
  | .wrongState => 3
  | .safeOff => 4
  | .noSupply => 5
  | .stageInUse => 6
  | .floorConflict => 7
  | .limitConflict => 8
  | .poolFull => 9
  | .stackFull => 10
  | .baseOnly => 11
  | .tagMismatch => 12

/-- The four octets of a notice (9.10.3). -/
def Notice.octets : Notice → List Octet
  | .done subject verb outcome => [1, octetOf subject, 0#3 ++ verb.code, outcome.code]
  | .stale h => [2, octetOf h, 0, 0]
  | .halted h => [3, octetOf h, 0, 0]
  | .tripped h reason => [4, octetOf h, reason.code, 0]
  | .released h => [5, octetOf h, 0, 0]
  | .repairedBase h => [6, octetOf h, 1, 0]
  | .repairedOptional h => [6, octetOf h, 2, 0]
  | .repairedEnvelope depth => [6, octetOf depth, 3, 0]
  | .envelopeLost depth => [7, octetOf depth, 0, 0]
  | .supply state reason => [8, 0, state.code, supplyReasonCode reason]
  | .short h => [9, octetOf h, 0, 0]

/-! ### The supply frame (R145, R176, 9.10.4) -/

/-- The fields of a good supply frame (R144). -/
structure SupplyFields where
  drive : Nat
  ret : Nat
  ready : Bool
  deriving DecidableEq, Repr

/-- The fields of a supply frame, none when the frame is bad (R145, R176). -/
def parseSupplyFrame (chars : List LineChar) : Option SupplyFields :=
  if chars.any (·.faulted) then none
  else
    match chars.map (·.octet) with
    | [a, b, c, d, r, hi, lo] =>
      if frameCheck [a, b, c, d, r] = hi ++ lo ∧ u16 a b ≤ Config.maxLink ∧ u16 c d ≤ Config.maxLink then
        if r = 0 then some ⟨u16 a b, u16 c d, false⟩
        else if r = 1 then some ⟨u16 a b, u16 c d, true⟩
        else none
      else none
    | _ => none

end Sys2Proof.Machine
end

