-- ==== Sys2Proof/Machine/Ops.lean ====
section
/-! DEFINITION. The named operations the steps share: access to entries, channels and records; notices; the pass flags;
checked reads of record memory; the changes of a claim's state; the envelope stack and the budgets. -/

namespace Sys2Proof.Machine

/-! ### Access -/

/-- The dynamic part of a handle entry. -/
def State.claim (s : State) (h : Handle) : Claim := s.claims.get h

/-- A handle entry replaced. -/
def State.setClaim (s : State) (h : Handle) (c : Claim) : State := { s with claims := s.claims.set h.val c h.isLt }

/-- The channel of a stage. -/
def State.channel (s : State) (st : Stage) : Channel := s.channels.get st

/-- A channel replaced. -/
def State.setChannel (s : State) (st : Stage) (k : Channel) : State :=
  { s with channels := s.channels.set st.val k st.isLt }

/-- A channel changed by `f`. -/
def State.modChannel (s : State) (st : Stage) (f : Channel → Channel) : State := s.setChannel st (f (s.channel st))

/-- The record parts of a handle. -/
def State.recordsOf (s : State) (h : Handle) : ClaimRecords := s.memory.records.get h

/-- The record parts of a handle replaced. -/
def State.setRecords (s : State) (h : Handle) (r : ClaimRecords) : State :=
  { s with memory := { s.memory with records := s.memory.records.set h.val r h.isLt } }

/-- Every element of a vector changed by `f`. -/
def mapVector {α : Type} {n : Nat} (f : α → α) (v : Vector α n) : Vector α n := ⟨(v.toList.map f).toArray, by simp⟩

/-- Every handle entry changed by `f`. -/
def State.mapClaims (s : State) (f : Claim → Claim) : State := { s with claims := mapVector f s.claims }

/-- Number of bound claims (R182). -/
def State.boundClaims (s : State) : Nat := s.claims.toList.countP (fun c => c.state.bound)

/-- The claim, if any, whose stage map names a stage (R9), lowest handle first. -/
def State.ownerOf (s : State) (st : Stage) : Option Handle :=
  Handle.all.find? (fun h =>
    match (s.claim h).stageMap with
    | none => false
    | some m => m.primary == st || m.partner == some st)

/-- The stages of a stage map, the primary stage first. -/
def StageMap.stages (m : StageMap) : List Stage := m.primary :: m.partner.toList

/-- Every channel of a claim's stages changed by `f`; nothing when the stage map is absent. -/
def State.onStages (s : State) (m : Option StageMap) (f : Channel → Channel) : State :=
  match m with
  | none => s
  | some m => m.stages.foldl (fun s st => s.modChannel st f) s

/-! ### Output pins -/

/-- The attention line follows the notice FIFO (R188). -/
def State.attention (s : State) : Bool := !s.link.notices.isEmpty

/-- The gate outputs at the stage: the hardware hold of the safe-off input acts beneath the channel (R134, R154). -/
def State.gateOutput (s : State) (st : Stage) : Gates := if s.inputs.safeOff then .off else (s.channel st).gates

/-! ### Notices and passes -/

/-- A notice joins the FIFO at its tail, or is dropped and counted (R185, R186). -/
def LinkPort.post (l : LinkPort) (n : Notice) : LinkPort :=
  if l.notices.length < Config.noticePlaces then { l with notices := l.notices ++ [n] }
  else { l with lostNotices := satInc Config.octetMax l.lostNotices }

/-- A notice posted (R185). -/
def State.post (s : State) (n : Notice) : State := { s with link := s.link.post n }

/-- An event that calls for a pass sets the wanted flag, or the rerun flag while a pass is in flight (R87). -/
def PassBook.call (b : PassBook) : PassBook :=
  if b.inFlight.isSome then { b with rerun := true } else { b with wanted := true }

/-- An event calls for a pass (R87). -/
def State.callForPass (s : State) : State := { s with passes := s.passes.call }

/-- A pass in flight is marked void (R80). -/
def State.voidPass (s : State) : State :=
  if s.passes.inFlight.isSome then { s with passes := { s.passes with void := true } } else s

/-! ### Record parts (R55 to R59) -/

/-- A record part as every write leaves it: both copies good (R56). -/
def Part.written {α : Type} (v : α) : Part α := ⟨⟨v, true⟩, ⟨v, true⟩⟩

/-- What a read of a record part finds (R57). -/
inductive ReadOutcome (α : Type) where
  | good (v : α)
  | repaired (v : α)
  | lost
  deriving DecidableEq, Repr

/-- The primary copy is examined, and the shadow only when the primary is bad (R57 to R59). -/
def Part.outcome {α : Type} (p : Part α) : ReadOutcome α :=
  if p.primary.good then .good p.primary.value
  else if p.shadow.good then .repaired p.shadow.value
  else .lost

/-- The shadow copied over the primary (R58). -/
def Part.repair {α : Type} (p : Part α) : Part α := { p with primary := p.shadow }

/-- One copy made bad (R55). -/
def Part.upset {α : Type} (p : Part α) (copy : CopyName) : Part α :=
  match copy with
  | .primary => { p with primary := { p.primary with good := false } }
  | .shadow => { p with shadow := { p.shadow with good := false } }

/-- The repair counter counts a repair and its REPAIRED notice is posted (R63). -/
def State.countRepair (s : State) (n : Notice) : State :=
  { s with memory := { s.memory with repairs := satInc Config.octetMax s.memory.repairs } }.post n

/-- A checked read of a claim's base part (R57): its values unless both copies are bad, and the state with any repair. -/
def State.readBase (s : State) (h : Handle) : Option BaseRecord × State :=
  match (s.recordsOf h).base with
  | none => (none, s)
  | some p =>
    match p.outcome with
    | .good v => (some v, s)
    | .repaired v =>
      (some v, (s.setRecords h { s.recordsOf h with base := some p.repair }).countRepair (.repairedBase h))
    | .lost => (none, s)

/-- A checked read of a claim's optional part, likewise. -/
def State.readOptional (s : State) (h : Handle) : Option OptionalRecord × State :=
  match (s.recordsOf h).optional with
  | none => (none, s)
  | some p =>
    match p.outcome with
    | .good v => (some v, s)
    | .repaired v =>
      (some v, (s.setRecords h { s.recordsOf h with optional := some p.repair }).countRepair (.repairedOptional h))
    | .lost => (none, s)

/-! ### Changes of a claim's state (2.2) -/

/-- A claim that leaves RELEASING abandons its ramp: its primary channel's ramped demand becomes 0 (R135), and release
reports it has under way will have no effect (R40; log 13). `c` is the entry before the change. -/
def State.abandonRamp (s : State) (h : Handle) (c : Claim) : State :=
  if c.state = .releasing then
    match c.stageMap with
    | none => s
    | some m =>
      { s.modChannel m.primary (fun k => { k with ramped := 0 }) with
        reports := s.reports.filter (fun r => !(r.handle == h && r.kind == .releaseComplete)) }
  else s

/-- Entry to TRIPPED with a reason (R48). A claim already TRIPPED keeps its first reason and posts nothing; an UNBOUND
entry is not tripped. -/
def State.enterTripped (s : State) (h : Handle) (reason : TripReason) : State :=
  let c := s.claim h
  if c.state.bound = true ∧ c.state ≠ .tripped then
    let s := s.setClaim h
      { c with
        state := .tripped, tripReason := some reason, driveGrant := 0, returnGrant := 0, releaseBasis := none,
        refreshTimer := .stopped, brakeTimer := .stopped }
    let s := (s.callForPass).abandonRamp h c
    let s := s.onStages c.stageMap (fun k => { k with mode := .off, gates := .off, brakeEngaged := true })
    s.post (.tripped h reason)
  else s

/-- A record part of a claim has been found lost: the condition becomes LOST, and a claim that is not TRIPPED is tripped
(R50). -/
def State.recordLost (s : State) (h : Handle) : State :=
  let c := s.claim h
  if c.state.bound then (s.setClaim h { c with condition := some .lost }).enterTripped h .recordLost else s

/-- The claim table's read of a base part (R11): a loss is taken before the action that made the read goes further. -/
def State.tableRead (s : State) (h : Handle) : Option BaseRecord × State :=
  match s.readBase h with
  | (some r, s') => (some r, s')
  | (none, s') => (none, s'.recordLost h)

/-- Entry to BRAKING of a live claim, with its brake-time read (R43). -/
def State.enterBraking (s : State) (h : Handle) : State :=
  match s.tableRead h with
  | (none, s) => s
  | (some r, s) =>
    let c := s.claim h
    let s := s.setClaim h
      { c with
        state := .braking, driveGrant := 0, returnGrant := 0, releaseBasis := none, refreshTimer := .stopped,
        brakeTimer := .running r.brakeTime }
    let s := (s.callForPass).abandonRamp h c
    s.onStages c.stageMap (fun k => { k with mode := .brake, brakeEngaged := true })

/-- The live claims among `hs` moved to BRAKING one after another, and how many were moved (R42, R44). -/
def State.brakeAll (s : State) (hs : List Handle) : Nat × State :=
  hs.foldl
    (fun acc h => if (acc.2.claim h).state.live then (acc.1 + 1, acc.2.enterBraking h) else acc)
    (0, s)

/-- Entry to HALTED from BRAKING (R45). -/
def State.enterHalted (s : State) (h : Handle) : State :=
  let c := s.claim h
  let s := s.setClaim h { c with state := .halted, driveGrant := 0, returnGrant := 0, brakeTimer := .stopped }
  let s := s.callForPass
  let s := s.onStages c.stageMap (fun k => { k with mode := .off, gates := .off })
  s.post (.halted h)

/-- The cells a stage map's claim holds (R2). -/
def StageMap.cells (m : StageMap) : Nat := m.cls.cells

/-- A claim returns to UNBOUND (R28): cells, floor, stages, dynamic part and notice. Its reports still under way concern
an owner that is gone (R47; log 13). -/
def State.freeClaim (s : State) (h : Handle) : State :=
  let c := s.claim h
  let cells := (c.stageMap.map StageMap.cells).getD 0
  let s := s.setRecords h ClaimRecords.none
  let s := { s with
    memory := { s.memory with free := s.memory.free + cells }
    table := { s.table with floorSum := s.table.floorSum - c.floorHeld.getD 0 }
    reports := s.reports.filter (fun r => !(r.handle == h)) }
  let s := s.onStages c.stageMap (fun k => { k with owner := none, mode := .off, gates := .off, brakeEngaged := true })
  let s := (s.setClaim h Claim.unbound).callForPass
  s.post (.released h)

/-- A computed estimate and side put in force; a difference calls for a pass (R13, R30). -/
def State.setEstimate (s : State) (h : Handle) (estimate : Nat) (side : DrawSide) : State :=
  let c := s.claim h
  if c.estimate = estimate ∧ c.side = side then s
  else (s.setClaim h { c with estimate := estimate, side := side }).callForPass

/-! ### The envelope stack and the budgets (4.1 to 4.5) -/

/-- What a read of a stack entry gives: its values, or that it is LOST and whether this read found it so (R62). -/
inductive EnvelopeRead where
  | values (e : Envelope)
  | lost (foundNow : Bool)
  deriving DecidableEq, Repr

/-- The drive limit, return limit and cut an entry reads as: a LOST one as G, 0 and 1 (R66). -/
def EnvelopeRead.limits (r : EnvelopeRead) (g : Nat) : Nat × Nat × Nat :=
  match r with
  | .values e => (e.driveLimit, e.returnLimit, e.cut)
  | .lost _ => (g, 0, 1)

/-- A stack entry, at a depth counted from 1 at the bottom, replaced. -/
def State.setEntry (s : State) (depth : Nat) (e : StackEntry) : State :=
  { s with table := { s.table with stack := s.table.stack.set (depth - 1) e } }

/-- A checked read of the envelope at a depth (R62). A LOST entry is not read (R64). -/
def State.readEnvelope (s : State) (depth : Nat) : EnvelopeRead × State :=
  match s.table.stack[depth - 1]? with
  | none => (.lost false, s)
  | some e =>
    match e.condition with
    | .lost => (.lost false, s)
    | .intact =>
      match e.part.outcome with
      | .good v => (.values v, s)
      | .repaired v =>
        (.values v, (s.setEntry depth { e with part := e.part.repair }).countRepair (.repairedEnvelope depth))
      | .lost => (.lost true, (s.setEntry depth { e with condition := .lost }).post (.envelopeLost depth))

/-- The budgets formed from the top entry, which is read, and the standing (R75). -/
def State.formBudgets (s : State) : Budgets × State :=
  match s.table.stack with
  | [] => (⟨0, 0, none⟩, s)
  | _ :: _ =>
    let (r, s) := s.readEnvelope s.table.stack.length
    let (drive, ret, cut) := r.limits s.table.g
    match s.table.standing.state with
    | .normal => (⟨min drive s.table.standing.availDrive, min ret s.table.standing.availReturn, some cut⟩, s)
    | .absent | .fault => (⟨0, 0, some cut⟩, s)

/-- The drive fallback (R78). -/
def Claim.driveFallback (c : Claim) : Claim :=
  if c.state.live = true ∧ c.floorHeld.getD 0 < c.driveGrant then { c with driveGrant := c.floorHeld.getD 0 } else c

/-- The return fallback (R79). -/
def Claim.returnFallback (c : Claim) : Claim := { c with returnGrant := 0 }

/-- Both grants 0. -/
def Claim.zeroGrants (c : Claim) : Claim := { c with driveGrant := 0, returnGrant := 0 }

/-- Budgets put in force and compared with those before: fallbacks, void, and a call for a pass (R76). -/
def State.applyBudgets (s : State) (b : Budgets) : State :=
  let old := s.table.budgets
  let s := { s with table := { s.table with budgets := b } }
  let s := if b.drive < old.drive then s.mapClaims Claim.driveFallback else s
  let s := if b.ret < old.ret then s.mapClaims Claim.returnFallback else s
  let s := if b.drive < old.drive ∨ b.ret < old.ret then s.voidPass else s
  if b = old then s else s.callForPass

/-- A recomputation of the budgets in force (R76). -/
def State.recompute (s : State) : State :=
  let (b, s) := s.formBudgets
  s.applyBudgets b

/-- A read of an envelope whose loss, if this read finds it, brings a recomputation (R62). -/
def State.readEnvelopeAndRecompute (s : State) (depth : Nat) : EnvelopeRead × State :=
  match s.readEnvelope depth with
  | (.values e, s) => (.values e, s)
  | (.lost true, s) => (.lost true, s.recompute)
  | (.lost false, s) => (.lost false, s)

/-! ### Supply posts at the claim table (R82, R83, R151) -/

/-- The standing of the supply replaced (R151). -/
def State.setStanding (s : State) (st : Standing) : State := { s with table := { s.table with standing := st } }

/-- The table takes the post that the supply state has become FAULT (R44, R82). The read of the top entry comes before the
brake-time reads (R152; log 14). -/
def State.supplyFault (s : State) (availDrive availReturn : Nat) : State :=
  let s := s.setStanding ⟨.fault, availDrive, availReturn⟩
  let (b, s) := s.formBudgets
  let s := { s with table := { s.table with budgets := b } }
  let s := ((s.voidPass).mapClaims Claim.zeroGrants).callForPass
  (s.brakeAll Handle.all).2

end Sys2Proof.Machine
end

