-- ==== Sys2Proof/Machine/Requests.lean ====
section
/-! DEFINITION. What a structural request does when the claim table takes it (chapters The Claim Record, Claim States,
Envelopes and Budgets, Structural Requests). -/

namespace Sys2Proof.Machine

/-- The subject of a request's DONE notice: the tag for PUSH and POP, the handle otherwise (R115). -/
def Request.subject (r : Request) : Nat :=
  match r.body with
  | .push e => e.tag
  | .pop tag => tag
  | .bind _ | .modify _ | .retire | .resume => r.handle.val

/-- The DONE notice of a request (R115). -/
def State.done (s : State) (r : Request) (outcome : DoneOutcome) : State :=
  s.post (.done r.subject r.body.verb outcome)

/-! ### BIND (R15, R16) -/

/-- The stage map a BIND writes (R9, R16). -/
def BindFields.stageMap (b : BindFields) : StageMap where
  cls := b.base.cls
  primary := b.primary
  partner := match b.optional with
    | some (.pair partner _ _) => some partner
    | some (.weakening _ _) => none
    | none => none

/-- The checks of a BIND, in order (R15). -/
def bindOutcome (s : State) (h : Handle) (b : BindFields) : DoneOutcome :=
  if (s.claim h).state.bound then .handleInUse
  else if s.table.safeOff then .safeOff
  else if s.table.standing.state ≠ .normal then .noSupply
  else if b.stageMap.stages.any (fun st => (s.ownerOf st).isSome) then .stageInUse
  else if s.table.g < s.table.floorSum + b.base.floor then .floorConflict
  else if s.memory.free < b.base.cls.cells then .poolFull
  else .ok

/-- The dynamic part after BIND (R8, fourth column). -/
def BindFields.claim (b : BindFields) : Claim where
  state := .run
  stageMap := some b.stageMap
  demand := 0
  sign := .still
  band := 0
  estimate := 0
  side := .drive
  driveGrant := 0
  returnGrant := 0
  releaseBasis := none
  tripReason := none
  condition := some .intact
  floorHeld := some b.base.floor
  refreshWindow := some b.base.refreshWindow
  refreshTimer := .running b.base.refreshWindow
  brakeTimer := .stopped

/-- A channel taken by a BIND (R120). Its gates stay as they are until its next expiry. -/
def Channel.takenBy (k : Channel) (owner : Owner) : Channel :=
  { k with
    owner := some owner, mode := .regulate, faultHold := false, integrator := 0, ramped := 0, imbalance := 0,
    shortfall := 0, shortFlag := false, brakeEngaged := false }

/-- A channel whose claim's gates a fault turns off and whose fault hold it sets (R137 to R140). -/
def Channel.hold (k : Channel) : Channel := { k with gates := .off, faultHold := true }

/-- The claim of a BIND created (R16). -/
def State.createClaim (s : State) (h : Handle) (b : BindFields) : State :=
  let s := s.setRecords h ⟨some (Part.written b.base), b.optional.map Part.written⟩
  let s := { s with
    memory := { s.memory with free := s.memory.free - b.base.cls.cells }
    table := { s.table with floorSum := s.table.floorSum + b.base.floor } }
  let s := s.modChannel b.primary (fun k => k.takenBy ⟨h, .primary⟩)
  let s := match b.stageMap.partner with
    | none => s
    | some p => s.modChannel p (fun k => k.takenBy ⟨h, .partner⟩)
  (s.setClaim h b.claim).callForPass

/-- A stage fault input already asserted at the BIND is reported in its step, and the new claim trips after its DONE
notice (R47, R138; log 18). -/
def State.tripIfFaulted (s : State) (h : Handle) (m : StageMap) : State :=
  if m.stages.any (fun st => s.inputs.stageFaults.get st) then
    (s.onStages (some m) Channel.hold).enterTripped h .stageFault
  else s

/-- A BIND taken (R15, R16). -/
def takeBind (s : State) (h : Handle) (b : BindFields) : State :=
  let r : Request := ⟨h, .bind b⟩
  match bindOutcome s h b with
  | .ok => ((s.createClaim h b).done r .ok).tripIfFaulted h b.stageMap
  | o => s.done r o

/-! ### MODIFY (R18, R19) -/

/-- The resulting record of a MODIFY (R18). -/
def ModifyFields.apply (m : ModifyFields) (r : BaseRecord) : BaseRecord :=
  { r with
    level := m.level.getD r.level
    floor := m.floor.getD r.floor
    currentLimit := m.currentLimit.getD r.currentLimit
    tripLevel := m.tripLevel.getD r.tripLevel
    holdDemand := m.holdDemand.getD r.holdDemand
    flags := r.flags.modify m.setFlags m.clearFlags }

/-- The checks of a MODIFY on the resulting record (R18, checks 3 and 4); `others` is the sum of the other floors. -/
def modifyOutcome (others g : Nat) (r : BaseRecord) : DoneOutcome :=
  if g < others + r.floor then .floorConflict
  else if r.tripLevel ≤ r.currentLimit ∨ r.currentLimit < r.holdDemand.natAbs then .limitConflict
  else .ok

/-- Whether a rewritten record differs in what calls for a pass (R19). -/
def BaseRecord.callsForPass (old new : BaseRecord) : Bool :=
  decide (old.level ≠ new.level ∨ old.floor ≠ new.floor ∨ old.currentLimit ≠ new.currentLimit
    ∨ old.tripLevel ≠ new.tripLevel ∨ old.flags ≠ new.flags)

/-- The resulting base part written (R19, R56). -/
def State.rewriteBase (s : State) (h : Handle) (r : BaseRecord) : State :=
  let held := (s.claim h).floorHeld.getD 0
  let s := s.setRecords h { s.recordsOf h with base := some (Part.written r) }
  let s := { s with table := { s.table with floorSum := s.table.floorSum - held + r.floor } }
  s.setClaim h { s.claim h with floorHeld := some r.floor }

/-- A MODIFY taken (R18, R19). -/
def takeModify (s : State) (h : Handle) (m : ModifyFields) : State :=
  let req : Request := ⟨h, .modify m⟩
  let c := s.claim h
  if c.state = .unbound then s.done req .noClaim
  else if c.state = .tripped ∨ c.condition = some .lost then s.done req .wrongState
  else
    match s.tableRead h with
    | (none, s) => s.done req .wrongState
    | (some r, s) =>
      let r' := m.apply r
      match modifyOutcome (s.table.floorSum - c.floorHeld.getD 0) s.table.g r' with
      | .ok =>
        let s := (s.rewriteBase h r').done req .ok
        if r.callsForPass r' then s.callForPass else s
      | o => s.done req o

/-! ### RETIRE (R37, R38, R41) -/

/-- Entry to RELEASING (R38). The primary channel takes the release basis as its ramped demand (R135; log 19). -/
def State.enterReleasing (s : State) (h : Handle) : State :=
  let c := s.claim h
  let s := s.setClaim h { c with state := .releasing, releaseBasis := some c.demand, refreshTimer := .stopped }
  match c.stageMap with
  | none => s
  | some m => s.modChannel m.primary (fun k => { k with ramped := c.demand })

/-- A RETIRE taken (R37). -/
def takeRetire (s : State) (h : Handle) : State :=
  let r : Request := ⟨h, .retire⟩
  match (s.claim h).state with
  | .unbound => s.done r .noClaim
  | .run => (s.enterReleasing h).done r .ok
  | .stale => (s.enterReleasing h).done r .ok
  | .releasing => s.done r .wrongState
  | .braking => s.done r .wrongState
  | .halted => (s.freeClaim h).done r .ok
  | .tripped => (s.freeClaim h).done r .ok

/-! ### RESUME (R34 to R36) -/

/-- The checks of a RESUME, in order (R34). -/
def resumeOutcome (s : State) (h : Handle) : DoneOutcome :=
  let c := s.claim h
  if c.state = .unbound then .noClaim
  else if s.table.safeOff then .safeOff
  else if c.state ≠ .stale ∧ c.state ≠ .halted then .wrongState
  else if s.table.standing.state ≠ .normal then .noSupply
  else .ok

/-- A claim put back in RUN at demand 0, from STALE or HALTED (R35, R36). From STALE the channels keep their integrators;
from HALTED their integrators and imbalance counts become 0 and their brake outputs are released. -/
def State.resumeClaim (s : State) (h : Handle) : State :=
  let c := s.claim h
  let s := s.setClaim h
    { c with
      state := .run, demand := 0, estimate := 0, side := .drive
      refreshTimer := .running (c.refreshWindow.getD 0) }
  let s := s.callForPass
  if c.state = .halted then
    s.onStages c.stageMap (fun k =>
      { k with mode := .regulate, integrator := 0, imbalance := 0, brakeEngaged := false })
  else s

/-- A RESUME taken (R34 to R36). -/
def takeResume (s : State) (h : Handle) : State :=
  let r : Request := ⟨h, .resume⟩
  match resumeOutcome s h with
  | .ok => (s.resumeClaim h).done r .ok
  | o => s.done r o

/-! ### PUSH and POP (R70 to R73) -/

/-- The checks of a PUSH, in order (R70). -/
def pushOutcome (s : State) (e : Envelope) : DoneOutcome :=
  if Config.stackPlaces ≤ s.table.stack.length then .stackFull
  else if s.memory.free = 0 then .poolFull
  else if e.driveLimit < s.table.g then .floorConflict
  else .ok

/-- A new entry joins the stack on top, in a cell of its own (R71). -/
def State.pushEntry (s : State) (e : Envelope) : State :=
  { s with
    memory := { s.memory with free := s.memory.free - 1 }
    table := { s.table with stack := s.table.stack ++ [⟨Part.written e, .intact⟩] } }

/-- A PUSH taken (R70, R71); `h` is the handle its header carried, which it does not use. -/
def takePush (s : State) (h : Handle) (e : Envelope) : State :=
  let r : Request := ⟨h, .push e⟩
  match pushOutcome s e with
  | .ok => ((s.pushEntry e).recompute).done r .ok
  | o => s.done r o

/-- The top entry leaves the stack and its cell is freed (R73). -/
def State.popEntry (s : State) : State :=
  { s with
    memory := { s.memory with free := s.memory.free + 1 }
    table := { s.table with stack := s.table.stack.dropLast } }

/-- A POP taken (R72, R73). -/
def takePop (s : State) (h : Handle) (tag : Nat) : State :=
  let r : Request := ⟨h, .pop tag⟩
  if s.table.stack.length ≤ 1 then s.done r .baseOnly
  else
    match s.readEnvelopeAndRecompute s.table.stack.length with
    | (.values e, s) => if e.tag = tag then ((s.popEntry).recompute).done r .ok else s.done r .tagMismatch
    | (.lost _, s) => ((s.popEntry).recompute).done r .ok

/-! ### Taking (R110, R114) -/

/-- The request to be taken next, and the port without it: the urgent queue's head, else the normal queue's (R110). -/
def LinkPort.next (l : LinkPort) : Option (Request × LinkPort) :=
  match l.urgent with
  | r :: rest => some (r, { l with urgent := rest })
  | [] =>
    match l.normal with
    | r :: rest => some (r, { l with normal := rest })
    | [] => none

/-- What a request does once it has left its queue. -/
def State.actOn (s : State) (r : Request) : State :=
  match r.body with
  | .bind b => takeBind s r.handle b
  | .modify m => takeModify s r.handle m
  | .retire => takeRetire s r.handle
  | .resume => takeResume s r.handle
  | .push e => takePush s r.handle e
  | .pop tag => takePop s r.handle tag

/-- The next waiting request, if any, is taken (R110, R114). -/
def State.takeNext (s : State) : State :=
  match s.link.next with
  | none => s
  | some (r, l) => ({ s with link := l }).actOn r

/-- The claim table is free to take a request outside a completion: no pass in flight and the wanted flag clear (R105). -/
def State.tableIdle (s : State) : Bool := s.passes.inFlight.isNone && !s.passes.wanted

/-- A taking of a request of one verb as an event of its own (R105, R110): it happens when the table is idle and the next
request has that verb; otherwise that taking is not due and nothing happens (log 4). -/
def State.takeIfDue (s : State) (v : Verb) : State :=
  match s.link.next with
  | none => s
  | some (r, _) => if s.tableIdle = true ∧ r.body.verb = v then s.takeNext else s

/-- BIND_TAKEN (R15, R16). -/
def execBindTaken (s : State) : Host.Outcome State Fault Refusal := .next (s.takeIfDue .bind)
/-- MODIFY_TAKEN (R18, R19). -/
def execModifyTaken (s : State) : Host.Outcome State Fault Refusal := .next (s.takeIfDue .modify)
/-- RETIRE_TAKEN (R37, R38, R41). -/
def execRetireTaken (s : State) : Host.Outcome State Fault Refusal := .next (s.takeIfDue .retire)
/-- RESUME_TAKEN (R34 to R36). -/
def execResumeTaken (s : State) : Host.Outcome State Fault Refusal := .next (s.takeIfDue .resume)
/-- PUSH_TAKEN (R70, R71). -/
def execPushTaken (s : State) : Host.Outcome State Fault Refusal := .next (s.takeIfDue .push)
/-- POP_TAKEN (R72, R73). -/
def execPopTaken (s : State) : Host.Outcome State Fault Refusal := .next (s.takeIfDue .pop)

end Sys2Proof.Machine
end

