-- ==== Sys2Proof/Machine/Passes.lean ====
section
/-! DEFINITION. Grant passes (chapter Allotment): grant order, the computation, start and completion, and what is due at
the claim table between events. -/

namespace Sys2Proof.Machine

/-! ### The allotment unit (R86, R92 to R95) -/

/-- Grant order: lower level first, then PAIR, AXIS, SPINDLE, then lower handle (R86). -/
def SnapshotEntry.before (a b : SnapshotEntry) : Bool :=
  if a.level ≠ b.level then decide (a.level < b.level)
  else if a.cls ≠ b.cls then decide (a.cls.rank < b.cls.rank)
  else decide (a.handle < b.handle)

/-- An entry put in its place. -/
def insertInOrder (e : SnapshotEntry) : List SnapshotEntry → List SnapshotEntry
  | [] => [e]
  | x :: xs => if e.before x then e :: x :: xs else x :: insertInOrder e xs

/-- The entries of a snapshot in grant order. -/
def grantOrder : List SnapshotEntry → List SnapshotEntry
  | [] => []
  | e :: es => insertInOrder e (grantOrder es)

/-- Whether a claim may receive drive current above its floor (R93). A cut with no value lets none but exempt claims. -/
def SnapshotEntry.mayDraw (e : SnapshotEntry) (cut : Option Nat) : Bool :=
  e.side == .drive && (e.cutExempt || cut.any (fun c => e.level ≤ c))

/-- The extra above the floor (R93). -/
def SnapshotEntry.extra (e : SnapshotEntry) (cut : Option Nat) (remainder : Nat) : Nat :=
  if e.mayDraw cut then min remainder (e.estimate - e.floor) else 0

/-- The return grant (R94). -/
def SnapshotEntry.returnGrant (e : SnapshotEntry) (remainder : Nat) : Nat :=
  match e.side with
  | .ret => min e.estimate remainder
  | .drive => 0

/-- The walk through the snapshot in grant order (R93, R94): the grants and the two remainders left. -/
def walk (cut : Option Nat) : List SnapshotEntry → Nat → Nat → List GrantLine × Nat × Nat
  | [], driveLeft, returnLeft => ([], driveLeft, returnLeft)
  | e :: es, driveLeft, returnLeft =>
    let extra := e.extra cut driveLeft
    let back := e.returnGrant returnLeft
    let (lines, d, r) := walk cut es (driveLeft - extra) (returnLeft - back)
    (⟨e.handle, e.floor + extra, back⟩ :: lines, d, r)

/-- The sum of the floors of a snapshot (R92). -/
def Snapshot.floors (sn : Snapshot) : Nat := (sn.entries.map (·.floor)).sum

/-- The computation of a pass (R92 to R95): it depends on its snapshot alone (R85). -/
def Snapshot.compute (sn : Snapshot) : Pass :=
  let (lines, d, r) :=
    walk sn.budgets.cut (grantOrder sn.entries) (sn.budgets.drive - sn.floors) sn.budgets.ret
  ⟨sn, d, r, lines⟩

/-! ### Start (R88 to R90) -/

/-- The entry of a live claim in a snapshot, with the level, floor and flags read (R90). -/
def snapshotEntry (h : Handle) (c : Claim) (r : BaseRecord) : SnapshotEntry where
  handle := h
  level := r.level
  cls := (c.stageMap.map (·.cls)).getD r.cls
  floor := r.floor
  estimate := c.estimate
  side := c.side
  cutExempt := r.flags.cutExempt

/-- The read of one claim at a pass start: a live claim whose base part is not lost enters the snapshot (R89). -/
def readForPass (acc : List SnapshotEntry × State) (h : Handle) : List SnapshotEntry × State :=
  if (acc.2.claim h).state.live then
    match acc.2.tableRead h with
    | (none, s) => (acc.1, s)
    | (some r, s) => (acc.1 ++ [snapshotEntry h (s.claim h) r], s)
  else acc

/-- A pass starts (R88 to R90): the reads in ascending order of handle, the snapshot, and the flags cleared. The grants
are computed from the snapshot at once and kept by the unit until the completion (log 22). -/
def State.startPass (s : State) : State :=
  let (entries, s) := Handle.all.foldl readForPass ([], s)
  let sn : Snapshot := ⟨s.table.budgets, entries⟩
  { s with
    passes := { s.passes with inFlight := some sn.compute, wanted := false, void := false, rerun := false } }

/-- A pass is due: wanted, and none in flight (R88). -/
def State.passDue (s : State) : Bool := s.passes.wanted && s.passes.inFlight.isNone

/-! ### Completion (R96, R104) -/

/-- One line of a result published: a claim that has left the live states is passed over (R96). -/
def publishLine (s : State) (l : GrantLine) : State :=
  let c := s.claim l.handle
  if c.state.live then s.setClaim l.handle { c with driveGrant := l.drive, returnGrant := l.ret } else s

/-- A result published: the grants and the slacks (R96). -/
def State.publish (s : State) (p : Pass) : State :=
  let s := p.grants.foldl publishLine s
  { s with passes := { s.passes with driveSlack := p.driveRemainder, returnSlack := p.returnRemainder } }

/-- The completion of a pass (R96, R104): published or, when void, discarded; one waiting request taken; and a new pass
when the completed one was void or one has been called for. -/
def State.completePass (s : State) (p : Pass) : State :=
  let again := s.passes.void || s.passes.rerun
  let s := if s.passes.void then s else s.publish p
  let s := { s with passes := { s.passes with inFlight := none } }
  let s := s.takeNext
  if again || s.passes.wanted then s.startPass else s

/-! ### What is due at the claim table (R88, R105; log 3) -/

/-- What the table does of its own accord after an event: a pass that is due starts; otherwise an idle table takes the
next waiting request, each in its own step, until one calls for a pass. `fuel` bounds the requests taken. -/
def State.settleWith : Nat → State → State
  | 0, s => if s.passDue then s.startPass else s
  | fuel + 1, s =>
    if s.passDue then s.startPass
    else if s.tableIdle then
      match s.link.next with
      | none => s
      | some _ => State.settleWith fuel s.takeNext
    else s

/-- Everything due at the table done: as many requests as wait may be taken, and at most one pass started. -/
def State.settle (s : State) : State := State.settleWith (s.link.urgent.length + s.link.normal.length) s

/-- Nothing is due at the claim table. -/
def State.settled (s : State) : Bool := !s.passDue && !(s.tableIdle && s.link.next.isSome)

/-- PASS_START (R88 to R90): it happens when a pass is wanted and none is in flight. -/
def execPassStart (s : State) : Host.Outcome State Fault Refusal :=
  .next (if s.passDue then s.startPass else s)

/-- PASS_COMPLETION (R96, R104): the pass in flight, if any, completes. -/
def execPassCompletion (s : State) : Host.Outcome State Fault Refusal :=
  let s := s.settle
  match s.passes.inFlight with
  | none => .next s
  | some p => .next (s.completePass p)

end Sys2Proof.Machine
end

