-- ==== Sys2Proof/Machine/Channels.lean ====
section
/-! DEFINITION. The regulation channels (chapter Regulation Channels): the work of one expiry, the reports of the
channels and their taking, and the stage fault inputs. -/

namespace Sys2Proof.Machine

/-! ### Reports to the claim table (R47, R140) -/

/-- A report set on its way to the claim table, naming the stage and the claim. -/
def State.report (s : State) (st : Stage) (h : Handle) (kind : ReportKind) : State :=
  { s with reports := s.reports ++ [⟨st, h, kind⟩] }

/-- A fault found at a channel: the gates of the claim's stages off, their fault holds set, and a report (7.7). -/
def State.channelTrip (s : State) (st : Stage) (h : Handle) (m : StageMap) (reason : TripReason) : State :=
  (s.onStages (some m) Channel.hold).report st h (.trip reason)

/-! ### Measured currents (R129) -/

/-- The peak phase current magnitude. -/
def samplePeak (x : StageSample) : Nat := max x.phaseA.natAbs (max x.phaseB.natAbs x.phaseC.natAbs)

/-! ### The reference (R122 to R126) -/

/-- The magnitude limit L (R123). -/
def magnitudeLimit (r : BaseRecord) (o : Option OptionalRecord) (band : Band) : Nat :=
  match o with
  | some (.weakening start limits) =>
    if start ≤ band.val then min r.currentLimit (limits.getD (band.val - start) r.currentLimit) else r.currentLimit
  | some (.pair _ _ _) => r.currentLimit
  | none => r.currentLimit

/-- The grant limit dmax, none when the coefficient is 0 (R124). -/
def grantLimit (coefficient grant : Nat) : Option Nat :=
  if coefficient = 0 then none else some (grant * 1000 / coefficient)

/-- The reference: the least of |d|, L and dmax, with the sign of d (R125). -/
def referenceOf (d : Int) (limit : Nat) (dmax : Option Nat) : Int :=
  let bounded := min d.natAbs limit
  let magnitude : Nat := match dmax with
    | none => bounded
    | some x => min bounded x
  if d < 0 then -(magnitude : Int) else magnitude

/-- Whether an expiry that forms a reference is short (R126). -/
def isShort (d : Int) (limit : Nat) (dmax : Option Nat) : Bool :=
  match dmax with
  | none => false
  | some x => decide (x < min d.natAbs limit)

/-- The ramped demand stepped toward 0 (R135). -/
def rampStep (ramped : Int) (step : Nat) : Int :=
  if ramped.natAbs ≤ step then 0 else if ramped < 0 then ramped + step else ramped - step

/-! ### The current law (R130) -/

/-- The command u and the integrator after it, from the reference, the measured current and the integrator. -/
def currentLaw (r : BaseRecord) (reference measured integrator : Int) : Int × Int :=
  let e := reference - measured
  let candidate := clampTo r.integratorLimit (integrator + ((r.ki : Int) * e).tdiv 1024)
  let u := ((r.kp : Int) * e).tdiv 256 + candidate
  if 1000 < u then (1000, integrator) else if u < -1000 then (-1000, integrator) else (u, candidate)

/-- Stages 8 and 9 of an expiry at one stage: duty, integrator and gates (R130, R132). -/
def Channel.drive (k : Channel) (r : BaseRecord) (reference : Int) (x : StageSample) : Channel :=
  let (u, i) := currentLaw r reference x.torque k.integrator
  { k with duty := u, integrator := i, gates := if k.faultHold then .off else .driving x.angle }

/-- The braking pattern at one stage (R133). -/
def Channel.applyBraking (k : Channel) : Channel := if k.faultHold then k else { k with gates := .brakingPattern }

/-! ### One expiry (R119, R121) -/

/-- The channel's read of the base part and, for SPINDLE and PAIR, of the optional part (R57, R61). -/
def State.readRecords (s : State) (h : Handle) (cls : ClaimClass) :
    Option (BaseRecord × Option OptionalRecord) × State :=
  match s.readBase h with
  | (none, s) => (none, s)
  | (some r, s) =>
    match cls with
    | .axis => (some (r, none), s)
    | .spindle | .pair =>
      match s.readOptional h with
      | (none, s) => (none, s)
      | (some o, s) => (some (r, some o), s)

/-- The shortness of an expiry that formed a reference, recorded at the primary channel (R126, R127). -/
def State.recordShort (s : State) (st : Stage) (h : Handle) (short : Bool) (notice : Bool) : State :=
  if short then
    let first := (s.channel st).shortfall == 0
    let s := s.modChannel st (fun k => { k with shortfall := satInc Config.shortfallMax k.shortfall, shortFlag := true })
    if first && notice then s.post (.short h) else s
  else s.modChannel st (fun k => { k with shortFlag := false })

/-- The imbalance count after the balance check: one more when the currents differ by more than the limit, else 0
(R142). -/
def imbalanceAfter (count limit : Nat) (m1 m2 : Int) : Nat := if limit < (m1 - m2).natAbs then count + 1 else 0

/-- Stages 7 to 9: the reference for a raw demand, shortness, and the drive of the claim's stages (R122 to R132). The
claim's sign, band and grants are those read in stage 1. -/
def State.regulateToward (s : State) (st : Stage) (h : Handle) (c : Claim) (m : StageMap) (r : BaseRecord)
    (o : Option OptionalRecord) (d : Int) (own partner : StageSample) : State :=
  let side := drawSide d c.sign
  let grant := match side with
    | .drive => c.driveGrant
    | .ret => c.returnGrant
  let limit := magnitudeLimit r o c.band
  let dmax := grantLimit (r.coefficient side c.band) grant
  let reference := referenceOf d limit dmax
  let s := s.recordShort st h (isShort d limit dmax) r.flags.shortNotice
  let s := s.modChannel st (fun k => k.drive r reference own)
  match m.partner with
  | none => s
  | some p => s.modChannel p (fun k => k.drive r reference partner)

/-- Stages 6 to 9: in RELEASING the ramp is stepped, and the release completes when it reaches 0 (R135, R136). -/
def State.rampAndRegulate (s : State) (st : Stage) (h : Handle) (c : Claim) (m : StageMap) (r : BaseRecord)
    (o : Option OptionalRecord) (own partner : StageSample) : State :=
  if c.state = .releasing then
    let ramped := rampStep (s.channel st).ramped r.releaseStep
    let s := s.modChannel st (fun k => { k with ramped := ramped })
    if ramped = 0 then
      (s.onStages (some m) (fun k => { k with gates := .off })).report st h .releaseComplete
    else s.regulateToward st h c m r o ramped own partner
  else s.regulateToward st h c m r o c.demand own partner

/-- Stages 5 to 9: the balance check of a PAIR (R142), then the ramp and the reference. -/
def State.balanceAndRegulate (s : State) (st : Stage) (h : Handle) (c : Claim) (m : StageMap) (r : BaseRecord)
    (o : Option OptionalRecord) (own partner : StageSample) : State :=
  match o with
  | some (.pair _ balanceLimit balanceTime) =>
    let count := imbalanceAfter (s.channel st).imbalance balanceLimit own.torque partner.torque
    let s := s.modChannel st (fun k => { k with imbalance := count })
    if balanceTime ≤ count then s.channelTrip st h m .imbalance
    else s.rampAndRegulate st h c m r o own partner
  | some (.weakening _ _) => s.rampAndRegulate st h c m r o own partner
  | none => s.rampAndRegulate st h c m r o own partner

/-- Whether a peak exceeds the trip level: of the stage, or for a PAIR of the partner stage (R137). -/
def overcurrent (r : BaseRecord) (m : StageMap) (own partner : StageSample) : Bool :=
  decide (r.tripLevel < samplePeak own) || (m.partner.isSome && decide (r.tripLevel < samplePeak partner))

/-- A record part found lost at a channel's read: the channel turns the claim's gates off and reports (R61, R140), and in
the same step the memory's own report makes the claim LOST and trips it (R10, R50, R59). The channel's report stays under
way and finds the claim TRIPPED when it is taken (R47; log 12). -/
def State.channelFindsLost (s : State) (st : Stage) (h : Handle) (m : StageMap) : State :=
  (s.channelTrip st h m .recordLost).recordLost h

/-- The work of one expiry in REGULATE with the fault hold clear (R121). A claim that is not live, or without a stage map,
does not arise here ("stage 1 always finds one of the three live states"), and no work is done for it. -/
def State.regulate (s : State) (st : Stage) (h : Handle) (own partner : StageSample) : State :=
  let c := s.claim h
  match c.stageMap with
  | none => s
  | some m =>
    if c.state.live then
      match s.readRecords h m.cls with
      | (none, s) => s.channelFindsLost st h m
      | (some (r, o), s) =>
        if overcurrent r m own partner then s.channelTrip st h m .overcurrent
        else s.balanceAndRegulate st h c m r o own partner
    else s

/-- One regulation expiry of a channel (R119). -/
def State.expire (s : State) (st : Stage) (own partner : StageSample) : State :=
  let k := s.channel st
  match k.owner with
  | none => s
  | some o =>
    match o.role with
    | .partner => s
    | .primary =>
      if k.faultHold then s
      else
        match k.mode with
        | .off => s
        | .brake => s.onStages (s.claim o.handle).stageMap Channel.applyBraking
        | .regulate => s.regulate st o.handle own partner

/-- REGULATION_EXPIRY (R119, R121, R133). -/
def execRegulationExpiry (st : Stage) (own partner : StageSample) (s : State) : Host.Outcome State Fault Refusal :=
  .next (s.settle.expire st own partner)

/-! ### Reports taken (R40, R47, R50) -/

/-- The oldest report of a stage that `p` selects, and the reports without it. -/
def takeFirst (st : Stage) (p : ReportKind → Bool) : List Report → Option (Report × List Report)
  | [] => none
  | r :: rest =>
    if r.stage == st && p r.kind then some (r, rest)
    else (takeFirst st p rest).map (fun (x, others) => (x, r :: others))

/-- A claim owns a stage (R9). -/
def Claim.owns (c : Claim) (st : Stage) : Bool :=
  match c.stageMap with
  | none => false
  | some m => m.stages.contains st

/-- Whether a report is a trip report. -/
def ReportKind.isTrip : ReportKind → Bool
  | .trip _ => true
  | .releaseComplete => false

/-- A trip report taken: the claim that still owns the stage is tripped, or the report is discarded (R47, R50). A claim that
its channel found lost is LOST and TRIPPED since that read, and the report changes nothing (log 12). -/
def State.takeTrip (s : State) (r : Report) : State :=
  if (s.claim r.handle).owns r.stage then
    match r.kind with
    | .trip .recordLost => s.recordLost r.handle
    | .trip .overcurrent => s.enterTripped r.handle .overcurrent
    | .trip .stageFault => s.enterTripped r.handle .stageFault
    | .trip .imbalance => s.enterTripped r.handle .imbalance
    | .trip .safeOff => s.enterTripped r.handle .safeOff
    | .releaseComplete => s
  else s

/-- TRIP_REPORT (R47, R48, R50): the oldest trip report of the stage is taken; with none under way nothing happens
(log 4). -/
def execTripReport (st : Stage) (s : State) : Host.Outcome State Fault Refusal :=
  let s := s.settle
  match takeFirst st ReportKind.isTrip s.reports with
  | none => .next s
  | some (r, rest) => .next (({ s with reports := rest }).takeTrip r)

/-- RELEASE_COMPLETION (R40): the oldest release-complete report of the stage is taken, and a claim still RELEASING
returns to UNBOUND; with none under way nothing happens (log 4). -/
def execReleaseCompletion (st : Stage) (s : State) : Host.Outcome State Fault Refusal :=
  let s := s.settle
  match takeFirst st (fun k => !k.isTrip) s.reports with
  | none => .next s
  | some (r, rest) =>
    let s := { s with reports := rest }
    let c := s.claim r.handle
    if c.state = .releasing ∧ c.owns r.stage = true then .next (s.freeClaim r.handle) else .next s

/-! ### Stage fault inputs (R138) -/

/-- The level of a stage fault input. -/
def State.stageFault (s : State) (st : Stage) : Bool := s.inputs.stageFaults.get st

/-- A stage fault input takes a level. -/
def State.setStageFault (s : State) (st : Stage) (level : Bool) : State :=
  { s with inputs := { s.inputs with stageFaults := s.inputs.stageFaults.set st.val level st.isLt } }

/-- A stage fault input becomes asserted (R138): the channel of an owned stage turns the claim's gates off, sets the fault
holds and reports STAGE-FAULT. -/
def State.stageFaultRises (s : State) (st : Stage) : State :=
  let s := s.setStageFault st true
  match (s.channel st).owner with
  | none => s
  | some o =>
    match (s.claim o.handle).stageMap with
    | none => s
    | some m => s.channelTrip st o.handle m .stageFault

/-- STAGE_FAULT_ASSERTED (R138). An input already asserted does not become asserted again (log 21). -/
def execStageFaultAsserted (st : Stage) (s : State) : Host.Outcome State Fault Refusal :=
  let s := s.settle
  .next (if s.stageFault st then s else s.stageFaultRises st)

/-- STAGE_FAULT_RELEASED (R138): nothing at the channel changes. -/
def execStageFaultReleased (st : Stage) (s : State) : Host.Outcome State Fault Refusal :=
  .next (s.settle.setStageFault st false)

end Sys2Proof.Machine
end

