-- ==== Sys2Proof/Machine/Events.lean ====
section
/-! DEFINITION. Timer expiries of claims, the safe-off input, cell upsets and the power-on reset. -/

namespace Sys2Proof.Machine

/-! ### Refresh and brake timers -/

/-- Entry to STALE of a claim in RUN, with its one read of the base part (R33, R60), and the STALE notice (R32). -/
def State.enterStale (s : State) (h : Handle) : State :=
  match s.tableRead h with
  | (none, s) => s
  | (some r, s) =>
    let c := s.claim h
    let d := if r.flags.hold then r.holdDemand else 0
    let s := s.setClaim h
      { c with
        state := .stale, demand := d, estimate := r.estimate d c.sign c.band, side := drawSide d c.sign,
        refreshTimer := .stopped }
    (s.callForPass).post (.stale h)

/-- REFRESH_TIMER_EXPIRY (R32, R33): the running refresh timer of a claim in RUN expires; no other expires (log 21). -/
def execRefreshTimerExpiry (h : Handle) (s : State) : Host.Outcome State Fault Refusal :=
  let s := s.settle
  if (s.claim h).state = .run ∧ (s.claim h).refreshTimer ≠ .stopped then .next (s.enterStale h) else .next s

/-- BRAKE_TIMER_EXPIRY (R45): the running brake timer of a claim in BRAKING expires; no other expires (log 21). -/
def execBrakeTimerExpiry (h : Handle) (s : State) : Host.Outcome State Fault Refusal :=
  let s := s.settle
  if (s.claim h).state = .braking ∧ (s.claim h).brakeTimer ≠ .stopped then .next (s.enterHalted h) else .next s

/-! ### The safe-off input (8.5) -/

/-- The input and the table's record of it take a level (R154). -/
def State.setSafeOff (s : State) (level : Bool) : State :=
  { s with
    inputs := { s.inputs with safeOff := level }
    table := { s.table with safeOff := level } }

/-- Every bound claim that is not TRIPPED is tripped with reason SAFE-OFF, in ascending order of handle (R49). -/
def State.tripAll (s : State) : State := Handle.all.foldl (fun s h => s.enterTripped h .safeOff) s

/-- SAFE_OFF_ASSERTED (R49, R154, R155). An input already asserted does not become asserted again (log 21). -/
def execSafeOffAsserted (s : State) : Host.Outcome State Fault Refusal :=
  let s := s.settle
  .next (if s.inputs.safeOff then s else (s.setSafeOff true).tripAll)

/-- SAFE_OFF_RELEASED (R157): the hold ends and the record is cleared; no claim moves. -/
def execSafeOffReleased (s : State) : Host.Outcome State Fault Refusal := .next (s.settle.setSafeOff false)

/-! ### Cell upsets (R55) -/

/-- An upset strikes one copy of one record part; a part that does not exist is a free cell, and nothing happens. -/
def State.upset (s : State) (target : UpsetTarget) (copy : CopyName) : State :=
  match target with
  | .base h => s.setRecords h { s.recordsOf h with base := (s.recordsOf h).base.map (·.upset copy) }
  | .optional h => s.setRecords h { s.recordsOf h with optional := (s.recordsOf h).optional.map (·.upset copy) }
  | .envelope depth =>
    if depth = 0 then s
    else
      match s.table.stack[depth - 1]? with
      | none => s
      | some e => s.setEntry depth { e with part := e.part.upset copy }
  | .freeCell => s

/-- CELL_UPSET (R55). -/
def execCellUpset (target : UpsetTarget) (copy : CopyName) (s : State) : Host.Outcome State Fault Refusal :=
  .next (s.settle.upset target copy)

/-! ### Power-on reset -/

/-- The levels of the protective inputs that a power-on reset finds. -/
def inputsAt (levels : InputLevels) : Inputs where
  safeOff := levels.safeOff
  stageFaults := ⟨((List.range 12).map (fun i => levels.stageFaults.getLsbD i)).toArray, by simp⟩

/-- POWER_ON_RESET (R24, R52, R84, R85, R117, R118, R146, R154, R164, R175): the part at the end of the reset. The
commands still to arrive stay in the queue: they are outside the part (log 20). -/
def execPowerOnReset (levels : InputLevels) (s : State) : Host.Outcome State Fault Refusal :=
  .next { State.afterReset levels.straps (inputsAt levels) with pending := s.pending }

end Sys2Proof.Machine
end

