-- ==== Sys2Proof/Machine/FastVerbs.lean ====
section
/-! DEFINITION. What the fast verbs do at the block that takes them, and the reply each earns: DEMAND, CYCLE, STOP and
LOOKUP at the claim table, STATUS over every block, READ-NOTICE and RESET-LINK at the link port, CONFIGURE at the claim
table and the supply monitor (chapters Claim States and Verbs, Replies and Notices). -/

namespace Sys2Proof.Machine

/-- The result of a fast verb: the status and payload of its reply, and the state it leaves. -/
structure VerbResult where
  status : Status
  payload : List Octet
  state : State
  deriving DecidableEq, Repr

/-! ### DEMAND and CYCLE (R29 to R31) -/

/-- A DEMAND applied to a claim in RUN (R30): the new values, the refresh timer, and, when a value has changed, the
estimate and side from the record (R13; log 11). -/
def State.applyDemand (s : State) (h : Handle) (d : DemandFields) : State :=
  let c := s.claim h
  let s := s.setClaim h
    { c with
      demand := d.demand, sign := d.sign, band := d.band, refreshTimer := .running (c.refreshWindow.getD 0) }
  if c.demand = d.demand ∧ c.sign = d.sign ∧ c.band = d.band then s
  else
    match s.tableRead h with
    | (none, s) => s
    | (some r, s) => s.setEstimate h (r.estimate d.demand d.sign d.band) (drawSide d.demand d.sign)

/-- The short flag of a claim's primary channel (R128). -/
def State.shortFlagOf (s : State) (c : Claim) : Bool :=
  match c.stageMap with
  | none => false
  | some m => (s.channel m.primary).shortFlag

/-- The shortfall counter of a claim's primary channel (R128). -/
def State.shortfallOf (s : State) (c : Claim) : Nat :=
  match c.stageMap with
  | none => 0
  | some m => (s.channel m.primary).shortfall

/-- The OK payload of a DEMAND reply (9.10.3). -/
def demandPayload (s : State) (h : Handle) : List Octet :=
  let c := s.claim h
  [c.state.code] ++ octets16 c.driveGrant ++ octets16 c.returnGrant ++ [markOctet (s.shortFlagOf c)]

/-- A DEMAND at the claim table (R23, R29, R179). -/
def demandAtTable (s : State) (h : Handle) (d : DemandFields) : VerbResult :=
  match (s.claim h).state with
  | .unbound => ⟨.noClaim, [], s⟩
  | .run =>
    let s := s.applyDemand h d
    ⟨.ok, demandPayload s h, s⟩
  | .stale => ⟨.wrongState, [ClaimState.stale.code], s⟩
  | .releasing => ⟨.wrongState, [ClaimState.releasing.code], s⟩
  | .braking => ⟨.wrongState, [ClaimState.braking.code], s⟩
  | .halted => ⟨.wrongState, [ClaimState.halted.code], s⟩
  | .tripped => ⟨.wrongState, [ClaimState.tripped.code], s⟩

/-- CYCLE entries refused, counted (R184). -/
def State.refuseEntries (s : State) (k : Nat) : State :=
  { s with link := { s.link with cycleRefusals := satAdd Config.octetMax s.link.cycleRefusals k } }

/-- One entry of a CYCLE (R31): applied to a claim in RUN, refused and counted otherwise. -/
def cycleEntry (s : State) (e : CycleEntry) : State :=
  if (s.claim e.handle).state = .run then s.applyDemand e.handle e.fields else s.refuseEntries 1

/-- The entries of a CYCLE, one after another in list order (R31, R183). -/
def cycleAtTable (s : State) (entries : List CycleEntry) : State := entries.foldl cycleEntry s

/-! ### STOP (R42) -/

/-- A STOP at the claim table: the scope is one handle or, with none, ALL. -/
def stopAtTable (s : State) (scope : Option Handle) : VerbResult :=
  let (count, s) := s.brakeAll (match scope with | none => Handle.all | some h => [h])
  ⟨.ok, [octetOf count], s⟩

/-! ### LOOKUP (R20, R21) -/

/-- The read a LOOKUP makes: the base part, unless the claim is already LOST (R20). -/
def lookupRead (s : State) (h : Handle) : Option BaseRecord × State :=
  if (s.claim h).condition = some .lost then (none, s) else s.tableRead h

/-- The OK payload of a LOOKUP reply (9.10.3). -/
def lookupPayload (s : State) (h : Handle) (r : Option BaseRecord) : List Octet :=
  let c := s.claim h
  let partner := c.stageMap.bind (·.partner)
  let presence : Octet :=
    0#5 ++ BitVec.ofBool c.tripReason.isSome ++ BitVec.ofBool r.isSome ++ BitVec.ofBool partner.isSome
  let cls := (c.stageMap.map (fun m => m.cls.code)).getD 0
  let primary := (c.stageMap.map (fun m => octetOf m.primary)).getD 0
  [c.state.code, cls, primary, (partner.map (fun p => octetOf p)).getD 0, presence, (c.condition.map (·.code)).getD 0,
      octetOf ((r.map (·.level)).getD 0)]
    ++ octets16 ((r.map (·.floor)).getD 0) ++ [(r.map (·.flags.octet)).getD 0]
    ++ signedOctets16 c.demand ++ [signBandOctet c.sign c.band] ++ octets16 c.estimate ++ [c.side.code]
    ++ octets16 c.driveGrant ++ octets16 c.returnGrant ++ octets16 (s.shortfallOf c)
    ++ [markOctet (s.shortFlagOf c), (c.tripReason.map (·.code)).getD 0]

/-- The CLEAR of a LOOKUP at the primary channel: the counter becomes 0, the flag stays (R21). -/
def State.clearShortfall (s : State) (h : Handle) : State :=
  match (s.claim h).stageMap with
  | none => s
  | some m => s.modChannel m.primary (fun k => { k with shortfall := 0 })

/-- A LOOKUP at the claim table (R20, R21). -/
def lookupAtTable (s : State) (h : Handle) (clear : Bool) : VerbResult :=
  if (s.claim h).state = .unbound then ⟨.noClaim, [], s⟩
  else
    let (r, s) := lookupRead s h
    ⟨.ok, lookupPayload s h r, if clear then s.clearShortfall h else s⟩

/-! ### STATUS (R182) -/

/-- The tag of the entry at one depth, read for STATUS; none when it is LOST or found LOST (R62). -/
def statusRead (acc : List (Option Nat) × State) (depth : Nat) : List (Option Nat) × State :=
  match acc.2.readEnvelopeAndRecompute depth with
  | (.values e, s) => (acc.1 ++ [some e.tag], s)
  | (.lost _, s) => (acc.1 ++ [none], s)

/-- The tags of the stack, bottom to top, and the state the reads leave (log 16). -/
def statusTags (s : State) : List (Option Nat) × State :=
  ((List.range s.table.stack.length).map (· + 1)).foldl statusRead ([], s)

/-- The tag octets at depths 1 to 8; 0 beyond the depth and where unknown (9.10.3). -/
def tagOctets (tags : List (Option Nat)) : List Octet :=
  (List.range 8).map (fun i => octetOf ((tags.getD i none).getD 0))

/-- The unknown-tags octet: bit n − 1 set when the tag at depth n is unknown (9.10.3). -/
def unknownTags (tags : List (Option Nat)) : Octet :=
  octetOf (((List.range 8).map (fun i => if tags[i]? = some none then 2 ^ i else 0)).sum)

/-- The OK payload of a STATUS reply (9.10.3). -/
def statusPayload (s : State) (tags : List (Option Nat)) : List Octet :=
  [s.table.partState.code, s.monitor.state.code, supplyReasonCode s.monitor.reason]
    ++ octets16 s.monitor.lastDrive ++ octets16 s.monitor.lastReturn ++ [markOctet s.monitor.lastReady]
    ++ octets16 s.table.g ++ octets16 s.table.budgets.drive ++ octets16 s.table.budgets.ret
    ++ [octetOf (s.table.budgets.cut.getD 0)]
    ++ octets16 s.passes.driveSlack ++ octets16 s.passes.returnSlack
    ++ [octetOf s.table.stack.length, unknownTags tags] ++ tagOctets tags
    ++ [octetOf s.memory.free, octetOf s.boundClaims, octetOf s.link.urgent.length, octetOf s.link.normal.length,
      octetOf s.link.notices.length, markOctet s.passes.inFlight.isSome, markOctet s.table.safeOff,
      octetOf s.link.headerErrors, octetOf s.link.frameErrors, octetOf s.link.formatErrors, octetOf s.link.dropped,
      octetOf s.link.lostNotices, octetOf s.link.cycleRefusals, octetOf s.monitor.checkErrors,
      octetOf s.memory.repairs]

/-- A STATUS: the reads of the stack, then every value as it stands after them (R182). -/
def statusOfPart (s : State) : VerbResult :=
  let (tags, s) := statusTags s
  ⟨.ok, statusPayload s tags, s⟩

/-! ### READ-NOTICE and RESET-LINK (R173, R187) -/

/-- A READ-NOTICE at the link port (R187). -/
def readNoticeAtPort (s : State) : VerbResult :=
  match s.link.notices with
  | [] => ⟨.empty, [], s⟩
  | n :: rest => ⟨.ok, n.octets, { s with link := { s.link with notices := rest } }⟩

/-- The link port emptied: both queues, the FIFO and the six counters (R173). -/
def LinkPort.cleared (l : LinkPort) : LinkPort :=
  { l with
    urgent := [], normal := [], notices := [], headerErrors := 0, frameErrors := 0, formatErrors := 0, dropped := 0,
    lostNotices := 0, cycleRefusals := 0 }

/-- A RESET-LINK at the link port (R116, R173). -/
def resetLinkAtPort (s : State) : VerbResult := ⟨.ok, [], { s with link := s.link.cleared }⟩

/-! ### CONFIGURE (R68, R150, R180) -/

/-- The base envelope of a CONFIGURE (R68). -/
def ConfigureFields.envelope (f : ConfigureFields) : Envelope := ⟨0, f.driveLimit, f.returnLimit, 7⟩

/-- CONFIGURE at the supply monitor (R150): G, the timeout, ABSENT, and the timer started; a SUPPLY notice when the state
was not ABSENT. -/
def State.configureMonitor (s : State) (f : ConfigureFields) : State :=
  let before := s.monitor.state
  let s := { s with
    monitor := { s.monitor with
      state := .absent, reason := none, g := f.g, timeout := some f.timeout, timer := .running f.timeout } }
  if before = .absent then s else s.post (.supply .absent none)

/-- CONFIGURE at the claim table (R68): the base envelope written anew, G, the standing ABSENT, the part READY. -/
def State.configureTable (s : State) (f : ConfigureFields) : State :=
  let cell := if s.table.partState = .unconfigured then 1 else 0
  { s with
    memory := { s.memory with free := s.memory.free - cell }
    table := { s.table with
      partState := .ready, g := f.g, stack := [⟨Part.written f.envelope, .intact⟩], standing := ⟨.absent, 0, 0⟩ } }

/-- A CONFIGURE taken or refused (R180). -/
def configurePart (s : State) (f : ConfigureFields) : VerbResult :=
  if s.boundClaims ≠ 0 ∨ 1 < s.table.stack.length then ⟨.wrongState, [s.table.partState.code], s⟩
  else ⟨.ok, [], ((s.configureMonitor f).configureTable f).recompute⟩

end Sys2Proof.Machine
end

