-- ==== Sys2Proof/Machine/LinkPort.lean ====
section
/-! DEFINITION. The link port (chapter The Drive Link): the judging of a frame in the order of R166, the reply, the
admission of structural requests, and the meanings of the commands that are frames. -/

namespace Sys2Proof.Machine

/-- What the link port decides of a frame (R160, R162, R166). -/
inductive Verdict where
  /-- lost to the port, whose driver was on for a reply of its own (R160, R171) -/
  | lost
  /-- taken as another station's reply (R162) -/
  | reply
  | headerBad
  /-- for another station; `expects` says whether a reply from it is expected -/
  | otherStation (expects : Bool)
  | checkBad (h : Header)
  | formatBad (h : Header)
  /-- `refused` counts the CYCLE entries naming this part (R168) -/
  | illegal (h : Header) (refused : Nat)
  | unconfigured (h : Header) (refused : Nat)
  | passed (h : Header) (c : Command)
  deriving DecidableEq, Repr

/-- A header addressed to this part's own station (R164). -/
def Header.addressed (h : Header) (station : BitVec 2) : Bool := h.station == station.zeroExtend 3

/-- A broadcast header (R164). -/
def Header.broadcast (h : Header) : Bool := h.station == 7#3

/-- The verbs taken while the part is UNCONFIGURED (R177). -/
def Verb.takenUnconfigured : Verb → Bool
  | .status | .readNotice | .resetLink | .configure => true
  | .demand | .cycle | .stop | .lookup | .bind | .modify | .retire | .resume | .push | .pop => false

/-- The CYCLE entries naming this part that a refusal of the whole frame counts (R168, R184). -/
def entriesRefused (v : Verb) (station : BitVec 2) (p : List Octet) : Nat :=
  match v with
  | .cycle => (cycleNaming station p).length
  | .demand | .stop | .lookup | .status | .readNotice | .configure | .resetLink | .bind | .modify | .retire | .resume
  | .push | .pop => 0

/-- Checks 5 and 6 of R166, on a payload of the right length for its verb. -/
def judgePayload (station : BitVec 2) (part : PartState) (h : Header) (v : Verb) (p : List Octet) : Verdict :=
  match parseCommand v station h.handle.toFin h.urgent p with
  | none => .illegal h (entriesRefused v station p)
  | some c =>
    if part = .unconfigured ∧ v.takenUnconfigured = false then .unconfigured h (entriesRefused v station p)
    else .passed h c

/-- The port is not receiving: its driver is on for a reply of its own, which covers the frame (R160, R171). -/
def LinkPort.deafTo (l : LinkPort) (duringReply : Bool) : Bool := l.driverOn && duringReply

/-- The checks of R166, in order, on a frame that the port hears (R160) and does not take as another's reply (R162). Check 7
is made at the admission. -/
def judge (f : PortFrame) (s : State) : Verdict :=
  if s.link.deafTo f.duringReply then .lost
  else if s.link.replyExpected = true ∧ f.gapNs ≤ Config.replyWindowNs then .reply
  else
    match f.goodHeader with
    | none => .headerBad
    | some h =>
      if h.addressed s.link.station || h.broadcast then
        match f.checkedPayload h with
        | none => .checkBad h
        | some p =>
          match formatVerb f h.verb h.broadcast p with
          | none => .formatBad h
          | some v => judgePayload s.link.station s.table.partState h v p
      else .otherStation (decide (h.station.toNat ≤ 3))

/-- The reply to a frame: sent, with the driver on for it, when the frame was addressed to this part, none to a broadcast
(R160, R164, R171). The frame after it is a command (R162). -/
def State.answer (s : State) (h : Header) (st : Status) (payload : List Octet) : State :=
  { s with
    link := { s.link with
      replyExpected := false, driverOn := !h.broadcast
      sent := if h.broadcast then [] else replyFrame h.verb h.handle st payload } }

/-- The result of a verb put into its reply. -/
def VerbResult.answered (r : VerbResult) (h : Header) : State := r.state.answer h r.status r.payload

/-- The queue an urgency bit names is full (R108). -/
def LinkPort.full (l : LinkPort) (urgent : Bool) : Bool :=
  if urgent then decide (Config.urgentPlaces ≤ l.urgent.length) else decide (Config.normalPlaces ≤ l.normal.length)

/-- A request joins the queue its urgency bit names, at the tail (R108). -/
def LinkPort.enqueue (l : LinkPort) (urgent : Bool) (r : Request) : LinkPort :=
  if urgent then { l with urgent := l.urgent ++ [r] } else { l with normal := l.normal ++ [r] }

/-- Check 7 and the admission of a structural request (R108, R166). -/
def admitRequest (s : State) (urgent : Bool) (r : Request) : VerbResult :=
  if s.link.full urgent then
    ⟨.queueFull, [], { s with link := { s.link with dropped := satInc Config.octetMax s.link.dropped } }⟩
  else ⟨.queued, [], { s with link := s.link.enqueue urgent r }⟩

/-- A command that has passed the checks, acted on (R169). -/
def actOnCommand (s : State) (c : Command) : VerbResult :=
  match c with
  | .demand h d => demandAtTable s h d
  | .cycle entries => ⟨.ok, [], cycleAtTable s entries⟩
  | .stop scope => stopAtTable s scope
  | .lookup h clear => lookupAtTable s h clear
  | .status => statusOfPart s
  | .readNotice => readNoticeAtPort s
  | .configure f => configurePart s f
  | .resetLink => resetLinkAtPort s
  | .structural urgent r => admitRequest s urgent r

/-- The port after a frame that earned no reply: none is expected unless this frame brings one, nothing was sent, and the
driver is off. -/
def State.portReady (s : State) : State :=
  { s with link := { s.link with replyExpected := false, driverOn := false, sent := [] } }

/-- One more frame with a bad header (R172). -/
def State.countHeaderError (s : State) : State :=
  { s with link := { s.link with headerErrors := satInc Config.octetMax s.link.headerErrors } }

/-- One more frame that failed its frame check (R172). -/
def State.countFrameError (s : State) : State :=
  { s with link := { s.link with frameErrors := satInc Config.octetMax s.link.frameErrors } }

/-- One more frame that failed the format check (R172). -/
def State.countFormatError (s : State) : State :=
  { s with link := { s.link with formatErrors := satInc Config.octetMax s.link.formatErrors } }

/-- A reply of another station expected or not (R162). -/
def State.expectReply (s : State) (e : Bool) : State := { s with link := { s.link with replyExpected := e } }

/-- What a verdict brings (R160, R162, R166, R169); a frame lost to the port changes nothing. -/
def actOnVerdict (s : State) (v : Verdict) : State :=
  match v with
  | .lost => s
  | .reply => s.portReady
  | .headerBad => s.portReady.countHeaderError
  | .otherStation expects => s.portReady.expectReply expects
  | .checkBad h => (s.countFrameError).answer h .checkError []
  | .formatBad h => (s.countFormatError).answer h .formatError []
  | .illegal h refused => (s.refuseEntries refused).answer h .illegal []
  | .unconfigured h refused => (s.refuseEntries refused).answer h .unconfigured []
  | .passed h c => (actOnCommand s c).answered h

/-- A frame taken by the link port as one event (R161), what is due at the table done first (log 3). -/
def State.takeFrame (s : State) (f : PortFrame) : State :=
  let s := s.settle
  actOnVerdict s (judge f s)

/-! ### The commands that are frames -/

/-- DEMAND (R29, R30, R179). -/
def execDemand (f : Frame) (s : State) : Host.Outcome State Fault Refusal :=
  .next (s.takeFrame (f.withCode Verb.demand.code))
/-- CYCLE (R31, R183, R184). -/
def execCycle (f : Frame) (s : State) : Host.Outcome State Fault Refusal :=
  .next (s.takeFrame (f.withCode Verb.cycle.code))
/-- STOP (R42). -/
def execStop (f : Frame) (s : State) : Host.Outcome State Fault Refusal :=
  .next (s.takeFrame (f.withCode Verb.stop.code))
/-- LOOKUP (R20, R21). -/
def execLookup (f : Frame) (s : State) : Host.Outcome State Fault Refusal :=
  .next (s.takeFrame (f.withCode Verb.lookup.code))
/-- STATUS (R182). -/
def execStatus (f : Frame) (s : State) : Host.Outcome State Fault Refusal :=
  .next (s.takeFrame (f.withCode Verb.status.code))
/-- READ_NOTICE (R187). -/
def execReadNotice (f : Frame) (s : State) : Host.Outcome State Fault Refusal :=
  .next (s.takeFrame (f.withCode Verb.readNotice.code))
/-- CONFIGURE (R68, R150, R180). -/
def execConfigure (f : Frame) (s : State) : Host.Outcome State Fault Refusal :=
  .next (s.takeFrame (f.withCode Verb.configure.code))
/-- RESET_LINK (R116, R173). -/
def execResetLink (f : Frame) (s : State) : Host.Outcome State Fault Refusal :=
  .next (s.takeFrame (f.withCode Verb.resetLink.code))
/-- BIND (R14, R108): the frame is checked and the request admitted; it is taken later (R15). -/
def execBind (f : Frame) (s : State) : Host.Outcome State Fault Refusal :=
  .next (s.takeFrame (f.withCode Verb.bind.code))
/-- MODIFY (R17, R108). -/
def execModify (f : Frame) (s : State) : Host.Outcome State Fault Refusal :=
  .next (s.takeFrame (f.withCode Verb.modify.code))
/-- RETIRE (R108). -/
def execRetire (f : Frame) (s : State) : Host.Outcome State Fault Refusal :=
  .next (s.takeFrame (f.withCode Verb.retire.code))
/-- RESUME (R108). -/
def execResume (f : Frame) (s : State) : Host.Outcome State Fault Refusal :=
  .next (s.takeFrame (f.withCode Verb.resume.code))
/-- PUSH (R69, R108). -/
def execPush (f : Frame) (s : State) : Host.Outcome State Fault Refusal :=
  .next (s.takeFrame (f.withCode Verb.push.code))
/-- POP (R72, R108). -/
def execPop (f : Frame) (s : State) : Host.Outcome State Fault Refusal :=
  .next (s.takeFrame (f.withCode Verb.pop.code))
/-- HEADER_ERROR (R163, R166): a frame judged like any other; one with a bad header is ignored and counted. -/
def execHeaderError (f : RawFrame) (s : State) : Host.Outcome State Fault Refusal := .next (s.takeFrame f.toPort)
/-- UNKNOWN_VERB (R167): a frame with a verb code of its own, which fails the format check when it is unknown. -/
def execUnknownVerb (code : BitVec 5) (f : Frame) (s : State) : Host.Outcome State Fault Refusal :=
  .next (s.takeFrame (f.withCode code))
/-- PASSED_OVER_FRAME (R162, R164): a frame for another station or taken as another station's reply. -/
def execPassedOverFrame (f : RawFrame) (s : State) : Host.Outcome State Fault Refusal := .next (s.takeFrame f.toPort)

end Sys2Proof.Machine
end

