-- ==== Sys2Proof/Machine/Supply.lean ====
section
/-! DEFINITION. The supply monitor (chapter Supply Line and Protective Inputs, 8.1 to 8.4). -/

namespace Sys2Proof.Machine

/-- The monitor's state and reason replaced, with the SUPPLY notice of the change (R152). -/
def State.supplyChange (s : State) (state : SupplyState) (reason : Option SupplyReason) : State :=
  ({ s with monitor := { s.monitor with state := state, reason := reason } }).post (.supply state reason)

/-- The table takes the post that the supply state has become NORMAL (R83). -/
def State.supplyNormal (s : State) (availDrive availReturn : Nat) : State :=
  (s.setStanding ⟨.normal, availDrive, availReturn⟩).recompute

/-- A verdict or timeout of FAULT for a reason (R148, R149, R151): a change of state is posted and braked for (R82); a
change of reason within FAULT only updates the standing (log 15); a repeated verdict posts nothing. -/
def State.faultVerdict (s : State) (reason : SupplyReason) (availDrive availReturn : Nat) : State :=
  match s.monitor.state with
  | .absent | .normal => (s.supplyChange .fault (some reason)).supplyFault availDrive availReturn
  | .fault =>
    if s.monitor.reason = some reason then s
    else (s.supplyChange .fault (some reason)).setStanding ⟨.fault, availDrive, availReturn⟩

/-- A verdict of NORMAL (R148): `changed` says whether the capability differs from the frame before. -/
def State.normalVerdict (s : State) (f : SupplyFields) (changed : Bool) : State :=
  match s.monitor.state with
  | .absent | .fault => (s.supplyChange .normal (some .recovered)).supplyNormal f.drive f.ret
  | .normal => if changed then s.supplyNormal f.drive f.ret else s

/-- The last capability recorded (R147, R148). -/
def State.recordCapability (s : State) (f : SupplyFields) : State :=
  { s with monitor := { s.monitor with lastDrive := f.drive, lastReturn := f.ret, lastReady := f.ready } }

/-- The timeout timer started with the full supply timeout (R148, R150). -/
def State.restartTimeout (s : State) : State :=
  { s with monitor := { s.monitor with timer := .running (s.monitor.timeout.getD 0) } }

/-- A good frame taken (R147, R148). -/
def State.goodSupplyFrame (s : State) (f : SupplyFields) : State :=
  match s.table.partState with
  | .unconfigured => s.recordCapability f
  | .ready =>
    let changed := decide (s.monitor.lastDrive ≠ f.drive ∨ s.monitor.lastReturn ≠ f.ret)
    let s := (s.restartTimeout).recordCapability f
    if f.ready = false then s.faultVerdict .notReady f.drive f.ret
    else if f.drive < s.monitor.g then s.faultVerdict .belowFloor f.drive f.ret
    else s.normalVerdict f changed

/-- A bad frame is ignored and counted (R145). -/
def State.badSupplyFrame (s : State) : State :=
  { s with monitor := { s.monitor with checkErrors := satInc Config.octetMax s.monitor.checkErrors } }

/-- SUPPLY_FRAME (R144 to R148). -/
def execSupplyFrame (chars : List LineChar) (s : State) : Host.Outcome State Fault Refusal :=
  let s := s.settle
  match parseSupplyFrame chars with
  | none => .next s.badSupplyFrame
  | some f => .next (s.goodSupplyFrame f)

/-- The timeout timer's expiry (R149): it stops, and the supply fails with reason TIMEOUT, carrying the last
capability. -/
def State.supplyTimesOut (s : State) : State :=
  let s := { s with monitor := { s.monitor with timer := .stopped } }
  s.faultVerdict .timeout s.monitor.lastDrive s.monitor.lastReturn

/-- SUPPLY_TIMEOUT_EXPIRY (R149). A stopped timer does not expire (log 21). -/
def execSupplyTimeoutExpiry (s : State) : Host.Outcome State Fault Refusal :=
  let s := s.settle
  match s.monitor.timer with
  | .stopped => .next s
  | .running _ => .next s.supplyTimesOut

end Sys2Proof.Machine
end

