-- ==== Sys2Proof/Machine/Dispatch.lean ====
section
/-! DEFINITION. One arm per command, each a direct call of its meaning. -/

namespace Sys2Proof.Machine

/-- The effect of a command on everything but the queue of commands. -/
def exec (i : Instr) (s : State) : Host.Outcome State Fault Refusal :=
  match i with
  | .powerOnReset levels => Sys2Proof.Machine.execPowerOnReset levels s
  -- frames on the drive link, fast verbs
  | .demand f => Sys2Proof.Machine.execDemand f s
  | .cycle f => Sys2Proof.Machine.execCycle f s
  | .stop f => Sys2Proof.Machine.execStop f s
  | .lookup f => Sys2Proof.Machine.execLookup f s
  | .status f => Sys2Proof.Machine.execStatus f s
  | .readNotice f => Sys2Proof.Machine.execReadNotice f s
  | .configure f => Sys2Proof.Machine.execConfigure f s
  | .resetLink f => Sys2Proof.Machine.execResetLink f s
  -- frames on the drive link, structural verbs
  | .bind f => Sys2Proof.Machine.execBind f s
  | .modify f => Sys2Proof.Machine.execModify f s
  | .retire f => Sys2Proof.Machine.execRetire f s
  | .resume f => Sys2Proof.Machine.execResume f s
  | .push f => Sys2Proof.Machine.execPush f s
  | .pop f => Sys2Proof.Machine.execPop f s
  -- other frames on the drive link
  | .headerError f => Sys2Proof.Machine.execHeaderError f s
  | .unknownVerb code f => Sys2Proof.Machine.execUnknownVerb code f s
  | .passedOverFrame f => Sys2Proof.Machine.execPassedOverFrame f s
  -- structural requests taken
  | .bindTaken => Sys2Proof.Machine.execBindTaken s
  | .modifyTaken => Sys2Proof.Machine.execModifyTaken s
  | .retireTaken => Sys2Proof.Machine.execRetireTaken s
  | .resumeTaken => Sys2Proof.Machine.execResumeTaken s
  | .pushTaken => Sys2Proof.Machine.execPushTaken s
  | .popTaken => Sys2Proof.Machine.execPopTaken s
  -- grant passes
  | .passStart => Sys2Proof.Machine.execPassStart s
  | .passCompletion => Sys2Proof.Machine.execPassCompletion s
  -- timers, channels and inputs
  | .refreshTimerExpiry h => Sys2Proof.Machine.execRefreshTimerExpiry h s
  | .brakeTimerExpiry h => Sys2Proof.Machine.execBrakeTimerExpiry h s
  | .regulationExpiry stage own partner => Sys2Proof.Machine.execRegulationExpiry stage own partner s
  | .tripReport stage => Sys2Proof.Machine.execTripReport stage s
  | .releaseCompletion stage => Sys2Proof.Machine.execReleaseCompletion stage s
  | .stageFaultAsserted stage => Sys2Proof.Machine.execStageFaultAsserted stage s
  | .stageFaultReleased stage => Sys2Proof.Machine.execStageFaultReleased stage s
  | .safeOffAsserted => Sys2Proof.Machine.execSafeOffAsserted s
  | .safeOffReleased => Sys2Proof.Machine.execSafeOffReleased s
  -- the supply line and record memory
  | .supplyFrame chars => Sys2Proof.Machine.execSupplyFrame chars s
  | .supplyTimeoutExpiry => Sys2Proof.Machine.execSupplyTimeoutExpiry s
  | .cellUpset target copy => Sys2Proof.Machine.execCellUpset target copy s

end Sys2Proof.Machine
end

