-- ==== Sys2Proof/Machine/Step.lean ====
section
/-! DEFINITION. One step of the machine: the command at the front of the queue. -/

namespace Sys2Proof.Machine

/-- One step: the front command is taken and executed on the state with the queue's rest. On an empty queue the part does
what is due at the claim table, and otherwise idles (log 2). -/
def step (s : State) : Host.Outcome State Fault Refusal :=
  match s.pending with
  | [] => .next s.settle
  | c :: rest => exec c { s with pending := rest }

/-- The state with the command a word spells put at the front of its queue; unchanged where the word spells none. -/
def State.withFetchWord (s : State) (nbits w : Nat) : State :=
  match decodeTableWord nbits w with
  | none => s
  | some c => { s with pending := c :: s.pending }

end Sys2Proof.Machine
end

