-- ==== Sys2Proof/Safety.lean ====
section
/-! DEFINITION. The vocabulary of the statements: frames that pass the checks of the port, payloads that carry a command
with its fields in range, and the laws that every step of the part keeps. Nothing of the model calls this file. -/

namespace Sys2Proof.Machine

/-! ### Frames and replies -/

/-- The command that a frame of a verb is. -/
def Verb.instr : Verb → Frame → Instr
  | .demand => .demand
  | .cycle => .cycle
  | .stop => .stop
  | .lookup => .lookup
  | .status => .status
  | .readNotice => .readNotice
  | .configure => .configure
  | .resetLink => .resetLink
  | .bind => .bind
  | .modify => .modify
  | .retire => .retire
  | .resume => .resume
  | .push => .push
  | .pop => .pop

/-- Characters received without a fault (R160). -/
def clean (os : List Octet) : List LineChar := os.map (fun o => ⟨o, false⟩)

/-- The port hears a frame: its driver is off, or the reply it was on for does not cover the frame (R160, R171). -/
abbrev Heard (s : State) (duringReply : Bool) : Prop := s.link.driverOn = false ∨ duringReply = false

/-- A frame that begins after `gapNs` is heard and taken as a command, not as another station's reply (R160, R162). -/
abbrev TakenAsCommand (s : State) (gapNs : Nat) (duringReply : Bool) : Prop :=
  Heard s duringReply ∧ (s.link.replyExpected = false ∨ Config.replyWindowNs < gapNs)

/-- A frame that passes checks 1 and 2 of R166: taken as a command, its header good and for this part (R163, R164). -/
abbrev ForThisPart (s : State) (code : BitVec 5) (f : Frame) : Prop :=
  TakenAsCommand s f.gapNs f.duringReply ∧ f.headerFaulted = false
    ∧ f.headerCheck = headerCheckOf f.station code f.handle f.urgent
    ∧ (f.station = s.link.station.zeroExtend 3 ∨ f.station = 7)

/-- The characters after the header of a frame that passes its frame check with a payload (R165). -/
def checkedBody (code : BitVec 5) (f : Frame) (payload : List Octet) : List LineChar :=
  clean (payload
    ++ wordOctets (frameCheck (Header.octets ⟨f.station, code, f.handle, f.urgent, f.headerCheck⟩ ++ payload)))

/-- A frame that passes checks 1 to 3 of R166 with a payload. -/
abbrev Checked (s : State) (code : BitVec 5) (f : Frame) (payload : List Octet) : Prop :=
  ForThisPart s code f ∧ f.body = checkedBody code f payload

/-- A manner of sending that R164 refuses. -/
abbrev Verb.SentWrongly (v : Verb) (f : Frame) : Prop :=
  (v = .cycle ∧ f.station ≠ 7) ∨ ((v = .lookup ∨ v = .status ∨ v = .readNotice) ∧ f.station = 7)

/-- Payload octets of the verbs of a fixed length (9.10.1); BIND and CYCLE have none. -/
def Verb.payloadOctets : Verb → Option Nat
  | .demand => some 3
  | .stop => some 1
  | .lookup => some 1
  | .status => some 0
  | .readNotice => some 0
  | .configure => some 7
  | .resetLink => some 0
  | .modify => some 12
  | .retire => some 0
  | .resume => some 0
  | .push => some 6
  | .pop => some 1
  | .cycle => none
  | .bind => none

/-- A BIND payload whose length is wrong for its class (R167). -/
def BindLengthWrong (p : List Octet) : Prop :=
  p = [] ∨ (p[0]? = some 0 ∧ p.length ≠ 53) ∨ (p[0]? = some 2 ∧ p.length ≠ 57)
    ∨ (p[0]? = some 1
        ∧ (p.length ≤ 53 ∨ ∃ s, p[53]? = some s ∧ 1 ≤ s.toNat ∧ s.toNat ≤ 7 ∧ p.length ≠ 70 - 2 * s.toNat))

/-- A payload whose length is wrong for its verb (R161, R167): a frame above 72 octets has a payload above 68. -/
def Verb.LengthWrong (v : Verb) (p : List Octet) : Prop :=
  68 < p.length ∨ (∃ n, v.payloadOctets = some n ∧ p.length ≠ n) ∨ (v = .bind ∧ BindLengthWrong p)
    ∨ (v = .cycle ∧ (p = [] ∨ ∃ count, p[0]? = some count ∧ p.length ≠ 1 + 4 * count.toNat))

/-- The port with a reply sent to a frame, its driver on for it, and none to a broadcast (R160, R164, R170, R171; `sent` is
the model's own output, log 7). -/
def LinkPort.replied (l : LinkPort) (code : BitVec 5) (f : Frame) (st : Status) (payload : List Octet) : LinkPort :=
  { l with
    replyExpected := false, driverOn := decide (f.station ≠ 7)
    sent := if f.station = 7 then [] else replyFrame code f.handle st payload }

/-- The state with such a reply sent. -/
def State.replied (s : State) (code : BitVec 5) (f : Frame) (st : Status) (payload : List Octet) : State :=
  { s with link := s.link.replied code f st payload }

end Sys2Proof.Machine

namespace Sys2Proof

/-- A frame of bare characters whose header is bad (R163): a single octet, a character fault in the header, or a header
check that is not the number of one bits of the other thirteen modulo 8. -/
def RawFrame.BadHeader (f : RawFrame) : Prop :=
  match f.chars with
  | c0 :: c1 :: _ =>
    c0.faulted = true ∨ c1.faulted = true
      ∨ (Machine.ones c0.octet + Machine.ones (c1.octet >>> 3)) % 8 ≠ (c1.octet &&& 7#8).toNat
  | _ => True

/-- The station a frame of bare characters names: the upper three bits of its first octet (9.10.1). -/
def RawFrame.station (f : RawFrame) : Nat :=
  match f.chars with
  | c0 :: _ => c0.octet.toNat / 32
  | [] => 0

end Sys2Proof

namespace Sys2Proof.Machine

/-! ### Payloads that carry a command -/

/-- A DEMAND in range (R29). -/
abbrev DemandFields.Admissible (d : DemandFields) : Prop := d.demand.natAbs ≤ 2000

/-- The three octets of a demand, motion sign and band (9.10.3). -/
def DemandFields.octets (d : DemandFields) : List Octet := signedOctets16 d.demand ++ [signBandOctet d.sign d.band]

/-- A CONFIGURE in range (R180). -/
abbrev ConfigureFields.Admissible (f : ConfigureFields) : Prop :=
  f.g ≤ 4000 ∧ f.g ≤ f.driveLimit ∧ f.driveLimit ≤ 4000 ∧ f.returnLimit ≤ 4000 ∧ 2 ≤ f.timeout ∧ f.timeout ≤ 50

/-- The octets of a CONFIGURE (9.10.3). -/
def ConfigureFields.octets (f : ConfigureFields) : List Octet :=
  octets16 f.g ++ octets16 f.driveLimit ++ octets16 f.returnLimit ++ [octetOf f.timeout]

/-- A PUSH in range (R69). -/
abbrev Envelope.Admissible (e : Envelope) : Prop :=
  1 ≤ e.tag ∧ e.tag ≤ 255 ∧ e.driveLimit ≤ 4000 ∧ e.returnLimit ≤ 4000 ∧ 1 ≤ e.cut ∧ e.cut ≤ 7

/-- The octets of a PUSH (9.10.3). -/
def Envelope.octets (e : Envelope) : List Octet :=
  [octetOf e.tag] ++ octets16 e.driveLimit ++ octets16 e.returnLimit ++ [octetOf e.cut]

/-- A base part in the ranges of 1.2, with the relations of R14. -/
def BaseRecord.Admissible (r : BaseRecord) : Prop :=
  (1 ≤ r.level ∧ r.level ≤ 7) ∧ r.floor ≤ 4000 ∧ (100 ≤ r.currentLimit ∧ r.currentLimit ≤ 2000)
    ∧ (r.currentLimit + 1 ≤ r.tripLevel ∧ r.tripLevel ≤ 3000) ∧ r.holdDemand.natAbs ≤ r.currentLimit
    ∧ (1 ≤ r.refreshWindow ∧ r.refreshWindow ≤ 255) ∧ (1 ≤ r.releaseStep ∧ r.releaseStep ≤ 255)
    ∧ (1 ≤ r.brakeTime ∧ r.brakeTime ≤ 255) ∧ r.kp ≤ 4095 ∧ r.ki ≤ 4095 ∧ r.integratorLimit ≤ 1000
    ∧ (r.motoring.length = 8 ∧ ∀ x ∈ r.motoring, x ≤ 1000)
    ∧ (r.regenerating.length = 8 ∧ ∀ x ∈ r.regenerating, x ≤ 1000)

/-- An optional part that fits its class, in the ranges of R6 and R7. -/
def OptionalFits (cls : ClaimClass) (primary : Stage) (currentLimit : Nat) (o : Option OptionalRecord) : Prop :=
  match cls, o with
  | .axis, none => True
  | .spindle, some (.weakening s limits) =>
    (1 ≤ s ∧ s ≤ 7) ∧ limits.length = 8 - s ∧ ∀ x ∈ limits, 100 ≤ x ∧ x ≤ currentLimit
  | .pair, some (.pair partner balanceLimit balanceTime) =>
    partner ≠ primary ∧ (10 ≤ balanceLimit ∧ balanceLimit ≤ 1000) ∧ (1 ≤ balanceTime ∧ balanceTime ≤ 255)
  | _, _ => False

/-- A BIND in range (R14). -/
def BindFields.Admissible (b : BindFields) : Prop :=
  b.base.Admissible ∧ OptionalFits b.base.cls b.primary b.base.currentLimit b.optional

/-- The octets of an optional part (9.10.3). -/
def optionalOctets : Option OptionalRecord → List Octet
  | none => []
  | some (.weakening s limits) => octetOf s :: limits.flatMap octets16
  | some (.pair partner balanceLimit balanceTime) =>
    octetOf partner.val :: octets16 balanceLimit ++ [octetOf balanceTime]

/-- The octets of a BIND (9.10.3). -/
def BindFields.octets (b : BindFields) : List Octet :=
  [b.base.cls.code, octetOf b.primary.val, octetOf b.base.level] ++ octets16 b.base.floor
    ++ octets16 b.base.currentLimit ++ octets16 b.base.tripLevel ++ signedOctets16 b.base.holdDemand
    ++ [octetOf b.base.refreshWindow, octetOf b.base.releaseStep, octetOf b.base.brakeTime]
    ++ octets16 b.base.kp ++ octets16 b.base.ki ++ octets16 b.base.integratorLimit
    ++ b.base.motoring.flatMap octets16 ++ b.base.regenerating.flatMap octets16 ++ [b.base.flags.octet]
    ++ optionalOctets b.optional

/-- A MODIFY in range (R17). -/
def ModifyFields.Admissible (m : ModifyFields) : Prop :=
  (∀ x ∈ m.level, 1 ≤ x ∧ x ≤ 7) ∧ (∀ x ∈ m.floor, x ≤ 4000) ∧ (∀ x ∈ m.currentLimit, 100 ≤ x ∧ x ≤ 2000)
    ∧ (∀ x ∈ m.tripLevel, 101 ≤ x ∧ x ≤ 3000) ∧ (∀ x ∈ m.holdDemand, x.natAbs ≤ 2000)
    ∧ ¬(m.setFlags.hold = true ∧ m.clearFlags.hold = true)
    ∧ ¬(m.setFlags.cutExempt = true ∧ m.clearFlags.cutExempt = true)
    ∧ ¬(m.setFlags.shortNotice = true ∧ m.clearFlags.shortNotice = true)

/-- The presence marks of a MODIFY (9.10.3). -/
def ModifyFields.marks (m : ModifyFields) : Octet :=
  0#3 ++ BitVec.ofBool m.holdDemand.isSome ++ BitVec.ofBool m.tripLevel.isSome ++ BitVec.ofBool m.currentLimit.isSome
    ++ BitVec.ofBool m.floor.isSome ++ BitVec.ofBool m.level.isSome

/-- The octets of a MODIFY (9.10.3); where a presence mark is clear any octets may stand, here those of `unread`. -/
def ModifyFields.octets (m : ModifyFields) (unread : Nat → Octet) : List Octet :=
  [m.marks] ++ (m.level.map (fun x => [octetOf x])).getD [unread 1]
    ++ (m.floor.map octets16).getD [unread 2, unread 3] ++ (m.currentLimit.map octets16).getD [unread 4, unread 5]
    ++ (m.tripLevel.map octets16).getD [unread 6, unread 7]
    ++ (m.holdDemand.map signedOctets16).getD [unread 8, unread 9] ++ [m.setFlags.octet, m.clearFlags.octet]

/-- The four octets of a CYCLE entry naming a station (9.10.3). -/
def CycleEntry.quad (e : CycleEntry) (station : BitVec 2) : Octet × Octet × Octet × Octet :=
  let d : BitVec 16 := BitVec.ofInt 16 e.fields.demand
  (station.zeroExtend 4 ++ BitVec.ofFin (w := 4) e.handle, d.extractLsb' 8 8, d.extractLsb' 0 8,
    signBandOctet e.fields.sign e.fields.band)

/-- Four octets as a list. -/
def quadOctets (q : Octet × Octet × Octet × Octet) : List Octet := [q.1, q.2.1, q.2.2.1, q.2.2.2]

/-- A CYCLE payload whose entries for this station are `es`; entries for other stations may stand between (R183). -/
def CarriesCycle (station : BitVec 2) (es : List CycleEntry) (p : List Octet) : Prop :=
  ∃ quads : List (Octet × Octet × Octet × Octet),
    1 ≤ quads.length ∧ quads.length ≤ 12 ∧ p = octetOf quads.length :: quads.flatMap quadOctets
      ∧ quads.filter (fun q => q.1.toNat / 16 == station.toNat) = es.map (·.quad station)

/-- A structural request in range. -/
def RequestBody.Admissible : RequestBody → Prop
  | .bind b => b.Admissible
  | .modify m => m.Admissible
  | .retire => True
  | .resume => True
  | .push e => e.Admissible
  | .pop tag => tag ≤ 255

/-- A command with every field in range (R168). -/
def Command.Admissible : Command → Prop
  | .demand _ d => d.Admissible
  | .cycle es => ∀ e ∈ es, e.fields.Admissible
  | .stop _ => True
  | .lookup _ _ => True
  | .status => True
  | .readNotice => True
  | .configure f => f.Admissible
  | .resetLink => True
  | .structural _ r => r.body.Admissible

/-- The verb of a command. -/
def Command.verb : Command → Verb
  | .demand _ _ => .demand
  | .cycle _ => .cycle
  | .stop _ => .stop
  | .lookup _ _ => .lookup
  | .status => .status
  | .readNotice => .readNotice
  | .configure _ => .configure
  | .resetLink => .resetLink
  | .structural _ r => r.body.verb

/-- The payload that carries a structural request (9.10.3). -/
def RequestBody.Carried (b : RequestBody) (p : List Octet) : Prop :=
  match b with
  | .bind b => p = b.octets
  | .modify m => ∃ unread, p = m.octets unread
  | .retire => p = []
  | .resume => p = []
  | .push e => p = e.octets
  | .pop tag => p = [octetOf tag]

/-- The payload that carries a command in a header with a handle and an urgency bit (9.10.3). -/
def Command.Carried (c : Command) (station : BitVec 2) (h : Handle) (urgent : Bool) (p : List Octet) : Prop :=
  match c with
  | .demand k d => k = h ∧ p = d.octets
  | .cycle es => CarriesCycle station es p
  | .stop (some k) => k = h ∧ p = [0]
  | .stop none => p = [1]
  | .lookup k clear => k = h ∧ p = [markOctet clear]
  | .status => p = []
  | .readNotice => p = []
  | .configure f => p = f.octets
  | .resetLink => p = []
  | .structural u r => u = urgent ∧ r.handle = h ∧ r.body.Carried p

/-! ### The table's own steps -/

end Sys2Proof.Machine

namespace Sys2Proof

/-- The steps that are not the table's own doing: all but the power-on reset, PASS_START and the takings. What is due at the
table is done before each of them (log 3). -/
def Instr.isEvent : Instr → Bool
  | .powerOnReset _ | .passStart | .bindTaken | .modifyTaken | .retireTaken | .resumeTaken | .pushTaken | .popTaken =>
    false
  | _ => true

/-- The steps that are the table's own doing: PASS_START and the takings (R88, R105). -/
def Instr.isOwnStep : Instr → Bool
  | .passStart | .bindTaken | .modifyTaken | .retireTaken | .resumeTaken | .pushTaken | .popTaken => true
  | _ => false

end Sys2Proof

namespace Sys2Proof.Machine

/-- Commands executed one after another, stopping at the first that does not answer next. -/
def runAll : List Instr → State → Host.Outcome State Fault Refusal
  | [], s => .next s
  | c :: cs, s =>
    match exec c s with
    | .next t => runAll cs t
    | .fault r => .fault r
    | .refused r => .refused r

/-- The command that takes a request of a verb; a fast verb has none. -/
def Verb.taking : Verb → Option Instr
  | .bind => some .bindTaken
  | .modify => some .modifyTaken
  | .retire => some .retireTaken
  | .resume => some .resumeTaken
  | .push => some .pushTaken
  | .pop => some .popTaken
  | .demand | .cycle | .stop | .lookup | .status | .readNotice | .configure | .resetLink => none

/-- A request is at the head of the queues with an idle table: `l` is the port once it has left (R105, R110). -/
abbrev TakenNext (s : State) (r : Request) (l : LinkPort) : Prop :=
  s.passes.inFlight = none ∧ s.passes.wanted = false
    ∧ ((∃ rest, s.link.urgent = r :: rest ∧ l = { s.link with urgent := rest })
      ∨ (s.link.urgent = [] ∧ ∃ rest, s.link.normal = r :: rest ∧ l = { s.link with normal := rest }))

/-- The request leaves the port with its DONE notice and nothing else changes (R112, R115). -/
def State.ended (s : State) (l : LinkPort) (r : Request) (o : DoneOutcome) : State :=
  { s with link := l.post (.done r.subject r.body.verb o) }

/-! ### The laws -/

/-- The port keeps its bounds, what waits in its queues is in range, and its driver is on only for a reply of its own, when
none of another station is expected (R107, R108, R160, R162, R172, R184 to R186). -/
def PortLaw (s : State) : Prop :=
  s.link.urgent.length ≤ 4 ∧ s.link.normal.length ≤ 8 ∧ s.link.notices.length ≤ 16
    ∧ (s.link.headerErrors ≤ 255 ∧ s.link.frameErrors ≤ 255 ∧ s.link.formatErrors ≤ 255 ∧ s.link.dropped ≤ 255
      ∧ s.link.lostNotices ≤ 255 ∧ s.link.cycleRefusals ≤ 255)
    ∧ (∀ r ∈ s.link.urgent, r.body.Admissible) ∧ (∀ r ∈ s.link.normal, r.body.Admissible)
    ∧ (s.link.driverOn = true ↔ s.link.sent ≠ []) ∧ (s.link.driverOn = true → s.link.replyExpected = false)

/-- The dynamic part of one entry agrees with its state (R8, R22, R25, R38, R48): what is present, which timer runs, and
that grants are held only by live claims. -/
def Claim.Law (c : Claim) : Prop :=
  (c.state = .unbound → c = Claim.unbound)
    ∧ (c.state ≠ .unbound →
        c.stageMap.isSome = true ∧ c.condition.isSome = true ∧ c.floorHeld.isSome = true
          ∧ c.refreshWindow.isSome = true)
    ∧ (c.releaseBasis.isSome = true ↔ c.state = .releasing) ∧ (c.tripReason.isSome = true ↔ c.state = .tripped)
    ∧ (c.refreshTimer ≠ .stopped ↔ c.state = .run) ∧ (c.brakeTimer ≠ .stopped ↔ c.state = .braking)
    ∧ (c.condition = some .lost → c.state = .tripped)
    ∧ (c.state.live = false → c.driveGrant = 0 ∧ c.returnGrant = 0)

/-- Every handle entry agrees with its state. -/
def ClaimLaw (s : State) : Prop := ∀ h, (s.claim h).Law

/-- The drive mode of a claim state (R27, R134). -/
def ClaimState.mode : ClaimState → DriveMode
  | .run | .stale | .releasing => .regulate
  | .braking => .brake
  | .unbound | .halted | .tripped => .off

/-- The stage map of a claim names a stage in a role (R9). -/
def Claim.Names (c : Claim) (st : Stage) (role : Role) : Prop :=
  ∃ m, c.stageMap = some m ∧ ((role = .primary ∧ m.primary = st) ∨ (role = .partner ∧ m.partner = some st))

/-- Channels and stage maps name each other, drive mode and brake output follow the owner's state, and gates are off
wherever R134 says so (R9, R22, R26, R27, R134). The table's record of safe-off is the input's level, and while it is
asserted every bound claim is TRIPPED (R49, R154, R156). A report of a lost record under way names a claim that is LOST
already (R59, R65; log 12). -/
def ChannelLaw (s : State) : Prop :=
  (∀ h st role, (s.claim h).Names st role → (s.channel st).owner = some ⟨h, role⟩)
    ∧ (∀ st o, (s.channel st).owner = some o →
        (s.claim o.handle).Names st o.role
          ∧ (s.channel st).mode = (s.claim o.handle).state.mode
          ∧ (s.channel st).brakeEngaged = !(s.claim o.handle).state.live)
    ∧ (∀ st, (s.channel st).owner = none → (s.channel st).mode = .off ∧ (s.channel st).brakeEngaged = true)
    ∧ (∀ st, (s.channel st).mode = .off ∨ (s.channel st).faultHold = true → (s.channel st).gates = .off)
    ∧ s.table.safeOff = s.inputs.safeOff
    ∧ (s.inputs.safeOff = true → ∀ h, (s.claim h).state = .unbound ∨ (s.claim h).state = .tripped)
    ∧ (∀ r ∈ s.reports, r.kind = .trip .recordLost → (s.claim r.handle).condition = some .lost)

/-- The cells a claim holds (R2, R53). -/
def Claim.cells (c : Claim) : Nat := (c.stageMap.map StageMap.cells).getD 0

/-- The sum of a figure over the sixteen entries. -/
def State.total (s : State) (figure : Claim → Nat) : Nat := ((Handle.all.map s.claim).map figure).sum

/-- The cells of record memory add up to 32, the floors to the table's figure, which G covers, and the base part of every
bound claim stands in memory with the floor that its entry holds (R1, R4, R53, R67). -/
def LedgerLaw (s : State) : Prop :=
  s.memory.free + s.total Claim.cells + s.table.stack.length = 32
    ∧ s.table.floorSum = s.total (fun c => c.floorHeld.getD 0) ∧ s.table.floorSum ≤ s.table.g
    ∧ (∀ h, (s.claim h).state = .unbound → s.recordsOf h = ClaimRecords.none)
    ∧ (∀ h, (s.claim h).state ≠ .unbound →
        ∃ p, (s.recordsOf h).base = some p ∧ (s.claim h).floorHeld = some p.primary.value.floor
          ∧ (s.claim h).floorHeld = some p.shadow.value.floor)
    ∧ (s.table.partState = .ready → 1 ≤ s.table.stack.length ∧ s.table.stack.length ≤ 8)
    ∧ (s.table.partState = .unconfigured →
        s.table.stack = [] ∧ s.link.urgent = [] ∧ s.link.normal = [] ∧ s.monitor.timer = .stopped
          ∧ s.table.standing.state = .absent ∧ s.monitor.state = .absent ∧ ∀ h, s.claim h = Claim.unbound)

/-- The table's standing agrees with the monitor, and a supply that is NORMAL covers G: so does every envelope, and with
them the drive budget; without it there is no budget and no live claim (R74, R75, R151). -/
def SupplyLaw (s : State) : Prop :=
  s.table.standing.state = s.monitor.state ∧ s.table.g = s.monitor.g
    ∧ (s.table.standing.state = .normal → s.table.g ≤ s.table.standing.availDrive ∧ s.table.g ≤ s.table.budgets.drive)
    ∧ (s.table.standing.state ≠ .normal →
        s.table.budgets.drive = 0 ∧ s.table.budgets.ret = 0 ∧ ∀ h, (s.claim h).state.live = false)
    ∧ (∀ e ∈ s.table.stack, s.table.g ≤ e.part.primary.value.driveLimit ∧ s.table.g ≤ e.part.shadow.value.driveLimit)

/-- The pass flags are consistent, and the result of a pass that is not void lies within the budgets in force and leaves
out no live claim (R84, R87, R92, R95, R96, R102). -/
def PassLaw (s : State) : Prop :=
  (s.passes.wanted = true → s.passes.inFlight = none)
    ∧ (s.passes.inFlight = none → s.passes.void = false ∧ s.passes.rerun = false)
    ∧ ∀ p, s.passes.inFlight = some p →
        (p.grants.map (·.handle)).Nodup ∧ (∀ h, (s.claim h).state.live = true → h ∈ p.grants.map (·.handle))
          ∧ (p.grants.map (·.drive)).sum ≤ p.snapshot.budgets.drive
          ∧ (p.grants.map (·.ret)).sum ≤ p.snapshot.budgets.ret
          ∧ (s.passes.void = false →
              p.snapshot.budgets.drive ≤ s.table.budgets.drive ∧ p.snapshot.budgets.ret ≤ s.table.budgets.ret)

/-- On each side the grants in force lie within the budget in force (R81). -/
def BudgetLaw (s : State) : Prop :=
  s.total (·.driveGrant) ≤ s.table.budgets.drive ∧ s.total (·.returnGrant) ≤ s.table.budgets.ret

/-- The laws together; each is kept by every step because all of them hold before it. -/
structure Laws (s : State) : Prop where
  port : PortLaw s
  claims : ClaimLaw s
  channels : ChannelLaw s
  ledger : LedgerLaw s
  supply : SupplyLaw s
  passes : PassLaw s
  budgets : BudgetLaw s

end Sys2Proof.Machine
end

