-- ==== Sys2Proof/Certificates/Slice0/Obligations.lean ====
section
/-! DEFINITION. The statements for the provers. Where a statement says `s.settled = true`, nothing is due at the claim table
in `s`; EveryEventFindsNothingDue carries such a statement to every state (log 3). A reply stands in `link.sent` (log 7). A
next state written as a record update of `s` leaves every part it does not name as it stood. -/

section
open Sys2Proof Sys2Proof.Machine

/-! ### The machine -/

/-- One step takes the command at the front of the queue and runs it on the state with the queue's rest. -/
def Obligations.StepTakesFrontCommand : Prop :=
  ∀ (c : Instr) (rest : List Instr) (s : State),
    step { s with pending := c :: rest } = exec c { s with pending := rest }

/-- Every command answers a next state and leaves the commands behind it in the queue (the part has no step that stops). -/
def Obligations.EveryCommandAnswersNext : Prop :=
  ∀ (c : Instr) (s : State), ∃ t, exec c s = .next t ∧ t.pending = s.pending

/-- The model's choice of when the table does its own steps (logs 2 and 3), from R88 and R105: on an empty queue a step does
what is due, and every other event finds nothing due; what is due is a run of PASS_START and takings, and leaves nothing due. -/
def Obligations.EveryEventFindsNothingDue : Prop :=
  (∀ s : State, s.pending = [] → step s = .next s.settle)
    ∧ (∀ (c : Instr) (s : State), c.isEvent = true → exec c s = exec c s.settle)
    ∧ (∀ s : State, s.settle.settled = true ∧ (s.settled = true → s.settle = s))
    ∧ ∀ s : State, ∃ cs : List Instr, (∀ c ∈ cs, c.isOwnStep = true) ∧ runAll cs s = .next s.settle

/-! ### The checks of the link port -/

/-- HEADER_ERROR and PASSED_OVER_FRAME (R160, R162 to R164, R166, R171, R172): a bad header is counted and has no other
effect; a frame for another station is passed over and may bring the expectation of a reply; whatever begins within 5 µs
while a reply is expected is discarded, be it shaped like a command or not; and whatever arrives while the port's driver is
on for its own reply is lost to it and changes nothing (that the frame says so is log 6). -/
def Obligations.BadHeadersAndFramesForOthersHaveNoEffect : Prop :=
  ∀ s : State, s.settled = true →
    (∀ f : RawFrame, TakenAsCommand s f.gapNs f.duringReply → f.BadHeader →
      exec (.headerError f) s = .next { s with
        link := { s.link with
          headerErrors := satInc 255 s.link.headerErrors, replyExpected := false, driverOn := false, sent := [] } })
    ∧ (∀ f : RawFrame, TakenAsCommand s f.gapNs f.duringReply → ¬f.BadHeader →
      f.station ≠ s.link.station.toNat → f.station ≠ 7 →
      exec (.passedOverFrame f) s = .next { s with
        link := { s.link with replyExpected := decide (f.station ≤ 3), driverOn := false, sent := [] } })
    ∧ (∀ f : RawFrame, Heard s f.duringReply → s.link.replyExpected = true → f.gapNs ≤ 5000 →
      exec (.passedOverFrame f) s = .next { s with
        link := { s.link with replyExpected := false, driverOn := false, sent := [] } })
    ∧ (∀ (v : Verb) (f : Frame), Heard s f.duringReply → s.link.replyExpected = true → f.gapNs ≤ 5000 →
      exec (v.instr f) s = .next { s with
        link := { s.link with replyExpected := false, driverOn := false, sent := [] } })
    ∧ (∀ f : RawFrame, s.link.driverOn = true → f.duringReply = true →
      exec (.headerError f) s = .next s ∧ exec (.passedOverFrame f) s = .next s)
    ∧ (∀ (v : Verb) (f : Frame), s.link.driverOn = true → f.duringReply = true → exec (v.instr f) s = .next s)
    ∧ ∀ (code : BitVec 5) (f : Frame), s.link.driverOn = true → f.duringReply = true →
      exec (.unknownVerb code f) s = .next s

/-- UNKNOWN_VERB and the frame and format checks of every verb (R165 to R167, R172): each refusal changes one counter and
sends its reply. -/
def Obligations.FrameAndFormatErrorsChangeOneCounter : Prop :=
  ∀ s : State, s.settled = true →
    (∀ (code : BitVec 5) (f : Frame) (p : List Octet), (∀ v : Verb, v.code ≠ code) → Checked s code f p →
      exec (.unknownVerb code f) s = .next { s with
        link := { s.link.replied code f .formatError [] with formatErrors := satInc 255 s.link.formatErrors } })
    ∧ (∀ (v : Verb) (f : Frame), ForThisPart s v.code f → (∀ p, f.body ≠ checkedBody v.code f p) →
      exec (v.instr f) s = .next { s with
        link := { s.link.replied v.code f .checkError [] with frameErrors := satInc 255 s.link.frameErrors } })
    ∧ ∀ (v : Verb) (f : Frame) (p : List Octet), Checked s v.code f p → v.SentWrongly f ∨ v.LengthWrong p →
      exec (v.instr f) s = .next { s with
        link := { s.link.replied v.code f .formatError [] with formatErrors := satInc 255 s.link.formatErrors } }

/-- Checks 5 and 6 of R166 (R168, R177, R184): a payload with a field out of range is answered ILLEGAL, and a verb not taken
while the part is UNCONFIGURED is answered so; a CYCLE counts its entries for this part. -/
def Obligations.RangeAndPartStateRefusalsChangeNothingElse : Prop :=
  ∀ (s : State) (v : Verb) (f : Frame) (p : List Octet),
    s.settled = true → Checked s v.code f p → ¬v.SentWrongly f → ¬v.LengthWrong p →
    let read := parseCommand v s.link.station f.handle.toFin f.urgent p
    let entries := if v = .cycle then (cycleNaming s.link.station p).length else 0
    (read = none →
      exec (v.instr f) s = .next { s with
        link := { s.link.replied v.code f .illegal [] with
          cycleRefusals := satAdd 255 s.link.cycleRefusals entries } })
    ∧ (read ≠ none → s.table.partState = .unconfigured →
      v ≠ .status → v ≠ .readNotice → v ≠ .resetLink → v ≠ .configure →
      exec (v.instr f) s = .next { s with
        link := { s.link.replied v.code f .unconfigured [] with
          cycleRefusals := satAdd 255 s.link.cycleRefusals entries } })

/-- Decoding a payload gives back every command it can carry (9.10.3, R14, R17, R29, R69, R72, R180, R183): for every command
with its fields in range, at every value of every field, the port reads from the payload that carries it that command. -/
def Obligations.CarriedCommandIsReadBack : Prop :=
  ∀ (c : Command) (station : BitVec 2) (h : Handle) (urgent : Bool) (p : List Octet),
    c.Admissible → c.Carried station h urgent p →
      parseCommand c.verb station h urgent p = some c ∧ ¬c.verb.LengthWrong p

/-- What the range check admits lies in the ranges of R14, R17, R29, R69, R72, R180 and R183 and is of the frame's verb; and
a payload of the right length is the one that carries it (9.10.3), so that a code not given in 9.10.2, such as STOP scope 2,
LOOKUP option 2 or sign code 3, and a set bit of no field are out of range (R168). -/
def Obligations.AdmittedCommandLiesInItsRanges : Prop :=
  ∀ (v : Verb) (station : BitVec 2) (h : Handle) (urgent : Bool) (p : List Octet) (c : Command),
    parseCommand v station h urgent p = some c →
      c.verb = v ∧ c.Admissible ∧ (¬v.LengthWrong p → c.Carried station h urgent p)

/-- BIND, MODIFY, RETIRE, RESUME, PUSH and POP as frames (R107, R108): with room in the queue the urgency bit names, the
request joins it at the tail and QUEUED is replied; with none it is refused QUEUE-FULL and counted. Nothing else changes. -/
def Obligations.StructuralRequestJoinsNamedQueueOrIsDropped : Prop :=
  ∀ (s : State) (f : Frame) (body : RequestBody) (p : List Octet),
    s.settled = true → s.table.partState = .ready → body.Admissible → body.Carried p →
    Checked s body.verb.code f p →
    let r : Request := ⟨f.handle.toFin, body⟩
    let replied := s.link.replied body.verb.code f
    (f.urgent = true → s.link.urgent.length < 4 →
      exec (body.verb.instr f) s = .next { s with
        link := { replied .queued [] with urgent := s.link.urgent ++ [r] } })
    ∧ (f.urgent = false → s.link.normal.length < 8 →
      exec (body.verb.instr f) s = .next { s with
        link := { replied .queued [] with normal := s.link.normal ++ [r] } })
    ∧ ((f.urgent = true ∧ 4 ≤ s.link.urgent.length) ∨ (f.urgent = false ∧ 8 ≤ s.link.normal.length) →
      exec (body.verb.instr f) s = .next { s with
        link := { replied .queueFull [] with dropped := satInc 255 s.link.dropped } })

/-- The attention line is asserted exactly while the notice FIFO holds a notice (R188). -/
def Obligations.AttentionLineFollowsNoticeFifo : Prop :=
  (∀ s : State, s.attention = true ↔ s.link.notices ≠ [])
    ∧ (∀ (s : State) (n : Notice), (s.post n).attention = true)
    ∧ (∀ (s : State) (n : Notice), s.link.notices = [n] → (readNoticeAtPort s).state.attention = false)
    ∧ (∀ (s : State) (n m : Notice) (rest : List Notice), s.link.notices = n :: m :: rest →
        (readNoticeAtPort s).state.attention = true)
    ∧ (∀ s : State, s.link.notices = [] → (readNoticeAtPort s).status = .empty)
    ∧ (∀ s : State, (resetLinkAtPort s).state.attention = false)
    ∧ (∀ (s : State) (n : Notice), ((resetLinkAtPort s).state.post n).attention = true
        ∧ (resetLinkAtPort (s.post n)).state.attention = false)
    ∧ ∀ (straps : BitVec 2) (inputs : Inputs), (State.afterReset straps inputs).attention = false

/-! ### Fast verbs -/

/-- The draw side and the estimate of a demand (R12, R13): regenerating exactly when a demand other than 0 opposes FWD or
REV, and the estimate the least whole number of LU not less than |d| × c / 1000. -/
def Obligations.DrawSideAndEstimateFollowTheDemand : Prop :=
  (∀ (d : Int) (sign : MotionSign),
    drawSide d sign = .ret ↔ (sign = .fwd ∧ d < 0) ∨ (sign = .rev ∧ 0 < d))
    ∧ ∀ (r : BaseRecord) (d : Int) (sign : MotionSign) (b : Band),
      let c := match drawSide d sign with
        | .drive => r.motoring.getD b 0
        | .ret => r.regenerating.getD b 0
      d.natAbs * c ≤ 1000 * r.estimate d sign b
        ∧ (∀ n, d.natAbs * c ≤ 1000 * n → r.estimate d sign b ≤ n)

/-- What applying a demand to a claim in RUN does (R11, R30, R32): the values are replaced and the refresh timer restarts;
an exact repetition does nothing else (that it makes no read is log 11); otherwise the base part is read, and the estimate
and side take the values the record gives, calling for a pass when either differs, or the claim trips on a lost record. -/
def Obligations.AppliedDemandReplacesValues : Prop :=
  ∀ (s : State) (h : Handle) (d : DemandFields) (w : Nat),
    (s.claim h).state = .run → (s.claim h).refreshWindow = some w →
    let c := s.claim h
    let c1 := { c with demand := d.demand, sign := d.sign, band := d.band, refreshTimer := .running w }
    let repeated := d.demand = c.demand ∧ d.sign = c.sign ∧ d.band = c.band
    (repeated → s.applyDemand h d = s.setClaim h c1)
    ∧ (∀ r s', ¬repeated → s.readBase h = (some r, s') →
      let e := r.estimate d.demand d.sign d.band
      let side := drawSide d.demand d.sign
      s.applyDemand h d = { s' with
        claims := s.claims.set h.val { c1 with estimate := e, side := side } h.isLt
        passes := if e = c.estimate ∧ side = c.side then s.passes else s.passes.call })
    ∧ ∀ s', ¬repeated → s.readBase h = (none, s') →
      s.applyDemand h d
        = (s.setClaim h { c1 with condition := some .lost }).enterTripped h .recordLost

/-- DEMAND (R23, R29, R179): in RUN it is applied at once and answered OK with the state, grants and short flag it left;
in another state it is refused WRONG-STATE with the state, and on an UNBOUND handle NO-CLAIM, and changes nothing. -/
def Obligations.DemandIsAppliedInRunAndRefusedElsewhere : Prop :=
  ∀ (s : State) (f : Frame) (d : DemandFields) (m : StageMap),
    s.settled = true → s.table.partState = .ready → d.Admissible → Checked s Verb.demand.code f d.octets →
    let h : Handle := f.handle.toFin
    let c := s.claim h
    (c.state = .run → c.stageMap = some m →
      let t := s.applyDemand h d
      exec (.demand f) s = .next (t.replied Verb.demand.code f .ok
        ([(t.claim h).state.code] ++ octets16 (t.claim h).driveGrant ++ octets16 (t.claim h).returnGrant
          ++ [markOctet (s.channel m.primary).shortFlag])))
    ∧ (c.state = .unbound → exec (.demand f) s = .next (s.replied Verb.demand.code f .noClaim []))
    ∧ (c.state ≠ .unbound → c.state ≠ .run →
      exec (.demand f) s = .next (s.replied Verb.demand.code f .wrongState [c.state.code]))

/-- CYCLE (R31, R183, R184): broadcast, its entries for this part are taken in list order, each applied as a DEMAND to a claim
in RUN and otherwise refused and counted; it sends no reply. -/
def Obligations.CycleTakesItsEntriesInListOrder : Prop :=
  (∀ (s : State) (f : Frame) (es : List CycleEntry) (p : List Octet),
    s.settled = true → s.table.partState = .ready → f.station = 7 → (∀ e ∈ es, e.fields.Admissible) →
    CarriesCycle s.link.station es p → Checked s Verb.cycle.code f p →
    let t := es.foldl cycleEntry s
    exec (.cycle f) s = .next { t with
      link := { t.link with replyExpected := false, driverOn := false, sent := [] } })
  ∧ ∀ (s : State) (e : CycleEntry),
    ((s.claim e.handle).state = .run → cycleEntry s e = s.applyDemand e.handle e.fields)
    ∧ ((s.claim e.handle).state ≠ .run →
      cycleEntry s e = { s with
        link := { s.link with cycleRefusals := satAdd 255 s.link.cycleRefusals 1 } })

/-- STOP (R42, R43): the live claims in scope, in ascending order of handle, each make their entry to BRAKING (as
EnteringBrakingEngagesBrakesAndTimer states it), and each is counted, whether its brake-time read finds the record or not; no
other claim changes; the reply carries the count. -/
def Obligations.StopBrakesEveryLiveClaimInScope : Prop :=
  ∀ (s : State) (f : Frame) (all : Bool),
    s.settled = true → s.table.partState = .ready → Checked s Verb.stop.code f [markOctet all] →
    let scope : List Handle := if all then Handle.all else [f.handle.toFin]
    let moved := scope.filter (fun h => (s.claim h).state.live)
    let t := moved.foldl (fun u h => u.enterBraking h) s
    exec (.stop f) s = .next (t.replied Verb.stop.code f .ok [octetOf moved.length])
      ∧ (∀ h ∈ moved, ((t.claim h).state = .braking ∨ (t.claim h).state = .tripped)
          ∧ (t.claim h).driveGrant = 0 ∧ (t.claim h).returnGrant = 0)
      ∧ (∀ h ∈ moved, ∀ r s', s.readBase h = (some r, s') → (t.claim h).state = .braking)
      ∧ (∀ h, h ∉ moved → t.claim h = s.claim h)
      ∧ t.table = s.table ∧ t.monitor = s.monitor ∧ t.inputs = s.inputs
      ∧ t.passes = (if moved = [] then s.passes else s.passes.call)

/-- Entry to BRAKING of a live claim (R25, R26, R43, R135). The brake-time read may repair the base part; a lost one trips the
claim instead. (That the release reports under way end with an abandoned ramp is the model's choice, log 13.) -/
def Obligations.EnteringBrakingEngagesBrakesAndTimer : Prop :=
  ∀ (s s' : State) (h : Handle) (m : StageMap), (s.claim h).state.live = true → (s.claim h).stageMap = some m →
    let c := s.claim h
    let t := s.enterBraking h
    (∀ r, s.readBase h = (some r, s') →
      t.claim h = { c with
          state := .braking, driveGrant := 0, returnGrant := 0, releaseBasis := none, refreshTimer := .stopped
          brakeTimer := .running r.brakeTime }
      ∧ (∀ k, k ≠ h → t.claim k = s.claim k)
      ∧ (∀ st, st ∈ m.stages → t.channel st = { s.channel st with
          mode := .brake, brakeEngaged := true
          ramped := if c.state = .releasing ∧ st = m.primary then 0 else (s.channel st).ramped })
      ∧ (∀ st, st ∉ m.stages → t.channel st = s.channel st)
      ∧ t.passes = s.passes.call
      ∧ t.reports = (if c.state = .releasing then
          s.reports.filter (fun r => !(r.handle == h && r.kind == .releaseComplete)) else s.reports)
      ∧ t.link = s'.link ∧ t.memory = s'.memory
      ∧ t.table = s.table ∧ t.monitor = s.monitor ∧ t.inputs = s.inputs ∧ t.pending = s.pending)
    ∧ (s.readBase h = (none, s') →
      t = (s.setClaim h { c with condition := some .lost }).enterTripped h .recordLost)

/-- Entry to TRIPPED (R25, R26, R48, R134): from every other bound state; an UNBOUND entry, and a claim already TRIPPED, which
keeps its first reason, change nothing and post nothing. (That the release reports under way end with an abandoned ramp is
the model's choice, log 13.) -/
def Obligations.EnteringTrippedRecordsFirstReason : Prop :=
  ∀ (s : State) (h : Handle) (reason : TripReason),
    let c := s.claim h
    let t := s.enterTripped h reason
    (c.state = .unbound ∨ c.state = .tripped → t = s)
    ∧ ∀ m, c.state ≠ .unbound → c.state ≠ .tripped → c.stageMap = some m →
      t.claim h = { c with
          state := .tripped, tripReason := some reason, driveGrant := 0, returnGrant := 0, releaseBasis := none
          refreshTimer := .stopped, brakeTimer := .stopped }
      ∧ (∀ k, k ≠ h → t.claim k = s.claim k)
      ∧ (∀ st, st ∈ m.stages → t.channel st = { s.channel st with
          mode := .off, gates := .off, brakeEngaged := true
          ramped := if c.state = .releasing ∧ st = m.primary then 0 else (s.channel st).ramped })
      ∧ (∀ st, st ∉ m.stages → t.channel st = s.channel st)
      ∧ t.passes = s.passes.call ∧ t.link = s.link.post (.tripped h reason)
      ∧ t.reports = (if c.state = .releasing then
          s.reports.filter (fun r => !(r.handle == h && r.kind == .releaseComplete)) else s.reports)
      ∧ t.table = s.table ∧ t.memory = s.memory ∧ t.monitor = s.monitor ∧ t.inputs = s.inputs
      ∧ t.pending = s.pending

/-- A claim's return to UNBOUND (R25, R28, R54, R120). That its reports still under way end with it is log 13. -/
def Obligations.FreedClaimGivesBackCellsFloorAndStages : Prop :=
  ∀ (s : State) (h : Handle) (m : StageMap) (floor : Nat),
    (s.claim h).stageMap = some m → (s.claim h).floorHeld = some floor →
    let t := s.freeClaim h
    t.claim h = Claim.unbound ∧ (∀ k, k ≠ h → t.claim k = s.claim k)
      ∧ t.recordsOf h = ClaimRecords.none ∧ (∀ k, k ≠ h → t.recordsOf k = s.recordsOf k)
      ∧ t.memory.free = s.memory.free + (if m.cls = .axis then 2 else 3) ∧ t.memory.repairs = s.memory.repairs
      ∧ t.table = { s.table with floorSum := s.table.floorSum - floor }
      ∧ (∀ st, st ∈ m.stages → t.channel st = { s.channel st with
          owner := none, mode := .off, gates := .off, brakeEngaged := true })
      ∧ (∀ st, st ∉ m.stages → t.channel st = s.channel st)
      ∧ t.passes = s.passes.call ∧ t.link = s.link.post (.released h)
      ∧ t.reports = s.reports.filter (fun r => !(r.handle == h))
      ∧ t.monitor = s.monitor ∧ t.inputs = s.inputs ∧ t.pending = s.pending

/-- LOOKUP (R11, R20, R21): NO-CLAIM on an UNBOUND handle; otherwise the base part is read unless the claim is LOST, a lost
one trips the claim before the reply, and the reply carries the 24 octets of 9.10.3, from the entry, the primary channel and
the values read, as they stand after the read. CLEAR sets the primary channel's counter to 0 after its value has been taken.
(ReadNoticeTakesTheOldest states the codes.) -/
def Obligations.LookupReportsTheClaimAsItStands : Prop :=
  ∀ (s : State) (f : Frame) (clear : Bool),
    s.settled = true → s.table.partState = .ready → f.station ≠ 7 →
    Checked s Verb.lookup.code f [markOctet clear] →
    let h : Handle := f.handle.toFin
    let c := s.claim h
    let bit (b : Bool) (n : Nat) : Nat := if b then 2 ^ n else 0
    let reported (t : State) (m : StageMap) (r : Option BaseRecord) : List Octet :=
      let d := t.claim h
      let k := t.channel m.primary
      let sign : Nat := match d.sign with
        | .still => 0
        | .fwd => 1
        | .rev => 2
      let read : List Octet := match r with
        | none => [0, 0, 0, 0]
        | some x => [octetOf x.level] ++ octets16 x.floor
          ++ [octetOf (bit x.flags.hold 0 + bit x.flags.cutExempt 1 + bit x.flags.shortNotice 2)]
      let reason : Octet := match d.tripReason with
        | none => 0
        | some y => y.code
      [d.state.code, m.cls.code, octetOf m.primary.val]
        ++ [match m.partner with
            | none => 0
            | some p => octetOf p.val]
        ++ [octetOf (bit m.partner.isSome 0 + bit r.isSome 1 + bit d.tripReason.isSome 2)]
        ++ [if d.condition = some .lost then 1 else 0]
        ++ read
        ++ signedOctets16 d.demand ++ [octetOf (16 * sign + d.band.val)] ++ octets16 d.estimate
        ++ [if d.side = .ret then 1 else 0]
        ++ octets16 d.driveGrant ++ octets16 d.returnGrant
        ++ octets16 k.shortfall ++ [if k.shortFlag then 1 else 0, reason]
    let answered (t : State) (m : StageMap) (r : Option BaseRecord) : State :=
      (if clear then t.setChannel m.primary { t.channel m.primary with shortfall := 0 } else t).replied
        Verb.lookup.code f .ok (reported t m r)
    (c.state = .unbound → exec (.lookup f) s = .next (s.replied Verb.lookup.code f .noClaim []))
    ∧ ∀ m, c.state ≠ .unbound → c.stageMap = some m →
      (c.condition = some .lost → exec (.lookup f) s = .next (answered s m none))
      ∧ (∀ r s', c.condition ≠ some .lost → s.readBase h = (some r, s') →
        exec (.lookup f) s = .next (answered s' m (some r)))
      ∧ (∀ s', c.condition ≠ some .lost → s.readBase h = (none, s') →
        exec (.lookup f) s = .next
          (answered ((s.setClaim h { c with condition := some .lost }).enterTripped h .recordLost) m none))

/-- STATUS (R62, R182): every entry of the stack is read, bottom to top, for its tag: a LOST one is not read, a bad primary is
repaired from a good shadow, and with both bad the entry becomes LOST and the budgets are recomputed, at that read (log 16).
The reply carries the 44 octets of 9.10.3 as those reads left the part. When every entry not LOST has a good primary copy,
nothing but the reply changes. (ReadNoticeTakesTheOldest states the codes.) -/
def Obligations.StatusReportsThePartAfterItsReads : Prop :=
  ∀ (s : State) (f : Frame),
    s.settled = true → f.station ≠ 7 → Checked s Verb.status.code f [] →
    let read (acc : List (Option Nat) × State) (depth : Nat) : List (Option Nat) × State :=
      let u := acc.2
      match u.table.stack[depth - 1]? with
      | none => (acc.1 ++ [none], u)
      | some e =>
        let replaced (x : StackEntry) : Table := { u.table with stack := u.table.stack.set (depth - 1) x }
        if e.condition = .lost then (acc.1 ++ [none], u)
        else if e.part.primary.good then (acc.1 ++ [some e.part.primary.value.tag], u)
        else if e.part.shadow.good then
          (acc.1 ++ [some e.part.shadow.value.tag], { u with
            table := replaced { e with part := ⟨e.part.shadow, e.part.shadow⟩ }
            memory := { u.memory with repairs := satInc 255 u.memory.repairs }
            link := u.link.post (.repairedEnvelope depth) })
        else
          (acc.1 ++ [none], ({ u with
            table := replaced { e with condition := .lost }
            link := u.link.post (.envelopeLost depth) } : State).recompute)
    let reads := ((List.range s.table.stack.length).map (· + 1)).foldl read ([], s)
    let tags := reads.1
    let t := reads.2
    let tag (depth : Nat) : Octet := match tags[depth - 1]? with
      | some (some x) => octetOf x
      | _ => 0
    let unknown := ((List.range 8).map (fun i => if tags[i]? = some none then 2 ^ i else 0)).sum
    let bound := (Handle.all.filter (fun h => decide ((t.claim h).state ≠ .unbound))).length
    let cut : Nat := match t.table.budgets.cut with
      | none => 0
      | some x => x
    exec (.status f) s = .next (t.replied Verb.status.code f .ok
      ([t.table.partState.code, t.monitor.state.code, supplyReasonCode t.monitor.reason]
        ++ octets16 t.monitor.lastDrive ++ octets16 t.monitor.lastReturn ++ [if t.monitor.lastReady then 1 else 0]
        ++ octets16 t.table.g ++ octets16 t.table.budgets.drive ++ octets16 t.table.budgets.ret ++ [octetOf cut]
        ++ octets16 t.passes.driveSlack ++ octets16 t.passes.returnSlack
        ++ [octetOf t.table.stack.length, octetOf unknown]
        ++ [tag 1, tag 2, tag 3, tag 4, tag 5, tag 6, tag 7, tag 8]
        ++ [octetOf t.memory.free, octetOf bound, octetOf t.link.urgent.length, octetOf t.link.normal.length,
          octetOf t.link.notices.length, if t.passes.inFlight.isSome then 1 else 0,
          if t.table.safeOff then 1 else 0, octetOf t.link.headerErrors, octetOf t.link.frameErrors,
          octetOf t.link.formatErrors, octetOf t.link.dropped, octetOf t.link.lostNotices,
          octetOf t.link.cycleRefusals, octetOf t.monitor.checkErrors, octetOf t.memory.repairs]))
    ∧ ((∀ e ∈ s.table.stack, e.condition = .intact → e.part.primary.good = true) →
      t = s ∧ tags = s.table.stack.map (fun e =>
        match e.condition with
        | .intact => some e.part.primary.value.tag
        | .lost => none))

/-- READ_NOTICE (R187): the oldest notice leaves the FIFO and is the reply's payload; an empty FIFO is answered EMPTY. And how
replies and notices are laid out on the line: fields of two octets, the frame check (R165), a reply's status and echo octets
(R170), the four octets of a notice (9.10.3), and the codes of 9.10.1 and 9.10.2. -/
def Obligations.ReadNoticeTakesTheOldest : Prop :=
  let verbCode : Verb → Nat
    | .demand => 0x01 | .cycle => 0x02 | .stop => 0x03 | .lookup => 0x04 | .status => 0x05 | .readNotice => 0x06
    | .configure => 0x07 | .resetLink => 0x08 | .bind => 0x10 | .modify => 0x11 | .retire => 0x12 | .resume => 0x13
    | .push => 0x14 | .pop => 0x15
  let statusCode : Status → Nat
    | .ok => 0 | .queued => 1 | .empty => 2 | .illegal => 3 | .formatError => 4 | .checkError => 5 | .queueFull => 6
    | .unconfigured => 7 | .noClaim => 8 | .wrongState => 9
  let outcomeCode : DoneOutcome → Nat
    | .ok => 0 | .handleInUse => 1 | .noClaim => 2 | .wrongState => 3 | .safeOff => 4 | .noSupply => 5
    | .stageInUse => 6 | .floorConflict => 7 | .limitConflict => 8 | .poolFull => 9 | .stackFull => 10 | .baseOnly => 11
    | .tagMismatch => 12
  let claimStateCode : ClaimState → Nat
    | .unbound => 0 | .run => 1 | .stale => 2 | .releasing => 3 | .braking => 4 | .halted => 5 | .tripped => 6
  let tripCode : TripReason → Nat
    | .overcurrent => 1 | .stageFault => 2 | .imbalance => 3 | .recordLost => 4 | .safeOff => 5
  let supplyCode : SupplyState → Nat
    | .absent => 0 | .normal => 1 | .fault => 2
  let supplyReason : Option SupplyReason → Nat
    | none => 0 | some .recovered => 1 | some .notReady => 2 | some .belowFloor => 3 | some .timeout => 4
  let noticeOctets : Notice → List Nat
    | .done subject verb outcome => [1, subject, verbCode verb, outcomeCode outcome]
    | .stale h => [2, h.val, 0, 0]
    | .halted h => [3, h.val, 0, 0]
    | .tripped h reason => [4, h.val, tripCode reason, 0]
    | .released h => [5, h.val, 0, 0]
    | .repairedBase h => [6, h.val, 1, 0]
    | .repairedOptional h => [6, h.val, 2, 0]
    | .repairedEnvelope depth => [6, depth, 3, 0]
    | .envelopeLost depth => [7, depth, 0, 0]
    | .supply state reason => [8, 0, supplyCode state, supplyReason reason]
    | .short h => [9, h.val, 0, 0]
  (∀ (s : State) (f : Frame),
    s.settled = true → f.station ≠ 7 → Checked s Verb.readNotice.code f [] →
    (∀ n rest, s.link.notices = n :: rest →
      exec (.readNotice f) s = .next { s with
        link := { s.link.replied Verb.readNotice.code f .ok ((noticeOctets n).map octetOf) with notices := rest } })
    ∧ (s.link.notices = [] → exec (.readNotice f) s = .next (s.replied Verb.readNotice.code f .empty [])))
  ∧ (∀ n, n < 65536 → octets16 n = [octetOf (n / 256), octetOf (n % 256)])
  ∧ (∀ x : Int, -32768 ≤ x → x < 32768 → signedOctets16 x = octets16 (x % 65536).toNat)
  ∧ (frameCheck [] = 0xFFFF#16 ∧ ∀ (os : List Octet) (o : Octet),
      frameCheck (os ++ [o]) = (List.range 8).foldl
        (fun r _ => if r.msb then (r <<< 1) ^^^ 0x1021#16 else r <<< 1) (frameCheck os ^^^ (o ++ 0#8)))
  ∧ (∀ (code : BitVec 5) (h : BitVec 4) (st : Status) (payload : List Octet),
      let covered := octetOf (128 * (code.toNat / 16) + statusCode st) :: octetOf (16 * h.toNat + code.toNat % 16) :: payload
      replyFrame code h st payload = covered ++ octets16 (frameCheck covered).toNat)
  ∧ (∀ v : Verb, v.code.toNat = verbCode v) ∧ (∀ x : ClaimState, x.code.toNat = claimStateCode x)
  ∧ (PartState.unconfigured.code = 0 ∧ PartState.ready.code = 1)
  ∧ (ClaimClass.axis.code = 0 ∧ ClaimClass.spindle.code = 1 ∧ ClaimClass.pair.code = 2)
  ∧ (∀ x : TripReason, x.code.toNat = tripCode x) ∧ (∀ x : SupplyState, x.code.toNat = supplyCode x)
  ∧ ∀ x : Option SupplyReason, (supplyReasonCode x).toNat = supplyReason x

/-- CONFIGURE (R68, R150, R180): refused WRONG-STATE while a claim is bound or the depth exceeds 1; otherwise the base
envelope, G and the timeout are set, the supply is ABSENT everywhere, the timer starts, the part is READY, the budgets fall
to 0 with cut 7, and a fall marks a pass in flight void. -/
def Obligations.ConfigureSetsThePartOrIsRefused : Prop :=
  ∀ (s : State) (f : Frame) (x : ConfigureFields),
    s.settled = true → x.Admissible → Checked s Verb.configure.code f x.octets →
    ((∃ h, (s.claim h).state ≠ .unbound) ∨ 1 < s.table.stack.length →
      exec (.configure f) s = .next (s.replied Verb.configure.code f .wrongState [s.table.partState.code]))
    ∧ ((∀ h, s.claim h = Claim.unbound) → s.table.stack.length ≤ 1 →
      let old := s.table.budgets
      let falls := (0 < old.drive ∨ 0 < old.ret) ∧ s.passes.inFlight.isSome = true
      let p := if falls then { s.passes with void := true } else s.passes
      let l := if s.monitor.state = .absent then s.link else s.link.post (.supply .absent none)
      exec (.configure f) s = .next { s with
        link := l.replied Verb.configure.code f .ok []
        table := { s.table with
          partState := .ready, g := x.g, budgets := ⟨0, 0, some 7⟩, standing := ⟨.absent, 0, 0⟩
          stack := [⟨⟨⟨⟨0, x.driveLimit, x.returnLimit, 7⟩, true⟩, ⟨⟨0, x.driveLimit, x.returnLimit, 7⟩, true⟩⟩, .intact⟩] }
        memory := { s.memory with
          free := s.memory.free - (if s.table.partState = .unconfigured then 1 else 0) }
        monitor := { s.monitor with
          state := .absent, reason := none, g := x.g, timeout := some x.timeout, timer := .running x.timeout }
        passes := if old = ⟨0, 0, some 7⟩ then p else p.call })

/-- RESET_LINK (R116, R173): both queues, the FIFO and the six counters of the port; nothing else, in either part state. -/
def Obligations.ResetLinkClearsThePortAlone : Prop :=
  ∀ (s : State) (f : Frame), s.settled = true → Checked s Verb.resetLink.code f [] →
    exec (.resetLink f) s = .next { s with
      link := { s.link.replied Verb.resetLink.code f .ok [] with
        urgent := [], normal := [], notices := [], headerErrors := 0, frameErrors := 0, formatErrors := 0
        dropped := 0, lostNotices := 0, cycleRefusals := 0 } }

/-! ### Structural requests taken -/

/-- The order of taking (R102, R110, R111): nothing is taken during a pass or before a pass that is wanted; the head of the
urgent queue is taken before any normal request; and a taking of another verb than the next request's is not due and
changes nothing (that last is log 4). -/
def Obligations.RequestsAreTakenUrgentFirstAndNeverDuringAPass : Prop :=
  ∀ (s : State) (v : Verb) (c : Instr), v.taking = some c →
    (s.passes.inFlight.isSome = true ∨ s.passes.wanted = true → exec c s = .next s)
    ∧ (s.link.urgent = [] → s.link.normal = [] → exec c s = .next s)
    ∧ ∀ r l, TakenNext s r l →
      (r.body.verb ≠ v → exec c s = .next s)
      ∧ (r.body.verb = v → exec c s = .next (({ s with link := l } : State).actOn r))
      ∧ (s.link.urgent ≠ [] → l.normal = s.link.normal ∧ s.link.urgent = r :: l.urgent)
      ∧ (s.link.urgent = [] → l.urgent = [] ∧ s.link.normal = r :: l.normal)

/-- BIND_TAKEN with every check passed (R16, R47, R56, R120, R138): the claim in RUN, its records written, its stages taken,
its floor and cells counted and a pass wanted, after which a stage fault input already asserted trips it (log 18). -/
def Obligations.BindTakenCreatesTheClaim : Prop :=
  ∀ (s : State) (h : Handle) (b : BindFields) (l : LinkPort),
    TakenNext s ⟨h, .bind b⟩ l → b.Admissible →
    (s.claim h).state = .unbound → s.table.safeOff = false → s.table.standing.state = .normal →
    (∀ k m st, (s.claim k).stageMap = some m → st ∈ m.stages → st ∉ b.stageMap.stages) →
    s.table.floorSum + b.base.floor ≤ s.table.g →
    let cells := if b.base.cls = .axis then 2 else 3
    cells ≤ s.memory.free →
    let fresh (k : Channel) (role : Role) : Channel := { k with
      owner := some ⟨h, role⟩, mode := .regulate, faultHold := false, integrator := 0, ramped := 0, imbalance := 0
      shortfall := 0, shortFlag := false, brakeEngaged := false }
    let partner := match b.optional with
      | some (.pair p _ _) => some p
      | _ => none
    let channels1 := s.channels.set b.primary.val (fresh (s.channel b.primary) .primary) b.primary.isLt
    let bound : State := { s with
      claims := s.claims.set h.val
        { state := .run, stageMap := some ⟨b.base.cls, b.primary, partner⟩, demand := 0, sign := .still, band := 0
          estimate := 0, side := .drive, driveGrant := 0, returnGrant := 0, releaseBasis := none, tripReason := none
          condition := some .intact, floorHeld := some b.base.floor, refreshWindow := some b.base.refreshWindow
          refreshTimer := .running b.base.refreshWindow, brakeTimer := .stopped } h.isLt
      memory := { s.memory with
        free := s.memory.free - cells
        records := s.memory.records.set h.val
          ⟨some ⟨⟨b.base, true⟩, ⟨b.base, true⟩⟩, b.optional.map (fun o => ⟨⟨o, true⟩, ⟨o, true⟩⟩)⟩ h.isLt }
      table := { s.table with floorSum := s.table.floorSum + b.base.floor }
      channels := match partner with
        | none => channels1
        | some p => channels1.set p.val (fresh (s.channel p) .partner) p.isLt
      passes := { s.passes with wanted := true }
      link := l.post (.done h.val .bind .ok) }
    let faulted := ∃ st ∈ b.stageMap.stages, s.stageFault st = true
    (¬faulted → exec .bindTaken s = .next bound)
    ∧ (faulted → exec .bindTaken s = .next ((bound.onStages (some b.stageMap)
        (fun k => { k with gates := .off, faultHold := true })).enterTripped h .stageFault))

/-- BIND_TAKEN refused (R15, R112, R115): the first check that fails gives the outcome of the DONE notice, and nothing else
changes. -/
def Obligations.BindTakenEndsWithFirstFailedCheck : Prop :=
  ∀ (s : State) (h : Handle) (b : BindFields) (l : LinkPort), TakenNext s ⟨h, .bind b⟩ l →
    let ends (o : DoneOutcome) : Prop := exec .bindTaken s = .next (s.ended l ⟨h, .bind b⟩ o)
    let inUse := (s.claim h).state ≠ .unbound
    let noSupply := s.table.standing.state ≠ .normal
    let stageInUse := ∃ k m st, (s.claim k).stageMap = some m ∧ st ∈ m.stages ∧ st ∈ b.stageMap.stages
    let conflict := s.table.g < s.table.floorSum + b.base.floor
    let full := s.memory.free < (if b.base.cls = .axis then 2 else 3)
    (inUse → ends .handleInUse)
    ∧ (¬inUse → s.table.safeOff = true → ends .safeOff)
    ∧ (¬inUse → s.table.safeOff = false → noSupply → ends .noSupply)
    ∧ (¬inUse → s.table.safeOff = false → ¬noSupply → stageInUse → ends .stageInUse)
    ∧ (¬inUse → s.table.safeOff = false → ¬noSupply → ¬stageInUse → conflict → ends .floorConflict)
    ∧ (¬inUse → s.table.safeOff = false → ¬noSupply → ¬stageInUse → ¬conflict → full → ends .poolFull)

/-- MODIFY_TAKEN (R11, R18, R19, R56): the checks in order; when they pass, the resulting base part is written, both copies
good, the floor is replaced in the entry and in the sum, and a pass is wanted only for a changed level, floor, current
limit, trip level or flag. -/
def Obligations.ModifyTakenRewritesTheBasePart : Prop :=
  ∀ (s : State) (h : Handle) (m : ModifyFields) (l : LinkPort), TakenNext s ⟨h, .modify m⟩ l →
    let c := s.claim h
    let taken : State := { s with link := l }
    let done (o : DoneOutcome) : Notice := .done h.val .modify o
    (c.state = .unbound → exec .modifyTaken s = .next (s.ended l ⟨h, .modify m⟩ .noClaim))
    ∧ (c.state ≠ .unbound → c.state = .tripped ∨ c.condition = some .lost →
      exec .modifyTaken s = .next (s.ended l ⟨h, .modify m⟩ .wrongState))
    ∧ (∀ s', c.state ≠ .unbound → c.state ≠ .tripped → c.condition ≠ some .lost →
      taken.readBase h = (none, s') →
      exec .modifyTaken s = .next (((taken.setClaim h { c with condition := some .lost }).enterTripped h
        .recordLost).post (done .wrongState)))
    ∧ ∀ r s', c.state ≠ .unbound → c.state ≠ .tripped → c.condition ≠ some .lost →
      taken.readBase h = (some r, s') →
      let r' := { r with
        level := m.level.getD r.level, floor := m.floor.getD r.floor
        currentLimit := m.currentLimit.getD r.currentLimit, tripLevel := m.tripLevel.getD r.tripLevel
        holdDemand := m.holdDemand.getD r.holdDemand
        flags := ⟨(r.flags.hold || m.setFlags.hold) && !m.clearFlags.hold,
          (r.flags.cutExempt || m.setFlags.cutExempt) && !m.clearFlags.cutExempt,
          (r.flags.shortNotice || m.setFlags.shortNotice) && !m.clearFlags.shortNotice⟩ }
      let others := s.table.floorSum - c.floorHeld.getD 0
      let conflict := s.table.g < others + r'.floor
      let limits := r'.tripLevel ≤ r'.currentLimit ∨ r'.currentLimit < r'.holdDemand.natAbs
      let differs := r.level ≠ r'.level ∨ r.floor ≠ r'.floor ∨ r.currentLimit ≠ r'.currentLimit
        ∨ r.tripLevel ≠ r'.tripLevel ∨ r.flags ≠ r'.flags
      (conflict → exec .modifyTaken s = .next (s'.post (done .floorConflict)))
      ∧ (¬conflict → limits → exec .modifyTaken s = .next (s'.post (done .limitConflict)))
      ∧ (¬conflict → ¬limits → exec .modifyTaken s = .next { s' with
        claims := s.claims.set h.val { c with floorHeld := some r'.floor } h.isLt
        memory := { s'.memory with
          records := s'.memory.records.set h.val
            ⟨some ⟨⟨r', true⟩, ⟨r', true⟩⟩, (s.recordsOf h).optional⟩ h.isLt }
        table := { s.table with floorSum := others + r'.floor }
        passes := if differs then { s.passes with wanted := true } else s.passes
        link := s'.link.post (done .ok) })

/-- RETIRE_TAKEN (R37, R38, R41, R135): the outcome of each state; a release starts with its basis the demand in force and
calls for no pass, and a HALTED or TRIPPED claim is freed, RELEASED before DONE. -/
def Obligations.RetireTakenStartsReleaseOrFrees : Prop :=
  ∀ (s : State) (h : Handle) (l : LinkPort), TakenNext s ⟨h, .retire⟩ l →
    let c := s.claim h
    (c.state = .unbound → exec .retireTaken s = .next (s.ended l ⟨h, .retire⟩ .noClaim))
    ∧ (∀ m, c.state = .run ∨ c.state = .stale → c.stageMap = some m →
      exec .retireTaken s = .next { s with
        claims := s.claims.set h.val
          { c with state := .releasing, releaseBasis := some c.demand, refreshTimer := .stopped } h.isLt
        channels := s.channels.set m.primary.val { s.channel m.primary with ramped := c.demand } m.primary.isLt
        link := l.post (.done h.val .retire .ok) })
    ∧ (c.state = .releasing ∨ c.state = .braking →
      exec .retireTaken s = .next (s.ended l ⟨h, .retire⟩ .wrongState))
    ∧ (c.state = .halted ∨ c.state = .tripped →
      exec .retireTaken s
        = .next ((({ s with link := l } : State).freeClaim h).post (.done h.val .retire .ok)))

/-- RESUME_TAKEN (R26, R34 to R36): the checks in order; from STALE the claim keeps its grants and its channels stand, from
HALTED its channels regulate again from cleared integrators and imbalance counts with the brakes released. -/
def Obligations.ResumeTakenReturnsTheClaimToRun : Prop :=
  ∀ (s : State) (h : Handle) (l : LinkPort), TakenNext s ⟨h, .resume⟩ l →
    let c := s.claim h
    let ends (o : DoneOutcome) : Prop := exec .resumeTaken s = .next (s.ended l ⟨h, .resume⟩ o)
    let resumed (w : Nat) : State := { s with
      claims := s.claims.set h.val
        { c with state := .run, demand := 0, estimate := 0, side := .drive, refreshTimer := .running w } h.isLt
      passes := { s.passes with wanted := true }
      link := l.post (.done h.val .resume .ok) }
    let off := s.table.safeOff = true
    let normal := s.table.standing.state = .normal
    (c.state = .unbound → ends .noClaim)
    ∧ (c.state ≠ .unbound → off → ends .safeOff)
    ∧ (c.state ≠ .unbound → ¬off → c.state ≠ .stale → c.state ≠ .halted → ends .wrongState)
    ∧ (c.state = .stale ∨ c.state = .halted → ¬off → ¬normal → ends .noSupply)
    ∧ (∀ w, c.state = .stale → c.refreshWindow = some w → ¬off → normal →
      exec .resumeTaken s = .next (resumed w))
    ∧ ∀ w m, c.state = .halted → c.refreshWindow = some w → c.stageMap = some m → ¬off → normal →
      exec .resumeTaken s = .next ((resumed w).onStages (some m)
        (fun k => { k with mode := .regulate, integrator := 0, imbalance := 0, brakeEngaged := false }))

/-- PUSH_TAKEN (R70, R71): the checks in order; then a cell is taken, the entry joins the stack on top with both copies good
and the budgets are recomputed, before the DONE notice. -/
def Obligations.PushTakenPutsTheEnvelopeOnTop : Prop :=
  ∀ (s : State) (h : Handle) (e : Envelope) (l : LinkPort), TakenNext s ⟨h, .push e⟩ l →
    let ends (o : DoneOutcome) : Prop := exec .pushTaken s = .next (s.ended l ⟨h, .push e⟩ o)
    let depth := s.table.stack.length
    let pushed : State := { s with
      link := l
      memory := { s.memory with free := s.memory.free - 1 }
      table := { s.table with stack := s.table.stack ++ [⟨⟨⟨e, true⟩, ⟨e, true⟩⟩, .intact⟩] } }
    (8 ≤ depth → ends .stackFull)
    ∧ (depth < 8 → s.memory.free = 0 → ends .poolFull)
    ∧ (depth < 8 → s.memory.free ≠ 0 → e.driveLimit < s.table.g → ends .floorConflict)
    ∧ (depth < 8 → s.memory.free ≠ 0 → s.table.g ≤ e.driveLimit →
      exec .pushTaken s = .next (pushed.recompute.post (.done e.tag .push .ok)))

/-- POP_TAKEN (R62, R64, R72, R73): refused BASE-ONLY at depth 1; otherwise the top is read, a loss found now recomputes the
budgets first, and a top that is LOST or carries the tag leaves the stack, its cell is freed and the budgets are recomputed
from the entry below; another tag is a TAG-MISMATCH. -/
def Obligations.PopTakenRemovesTheTopEnvelope : Prop :=
  ∀ (s : State) (h : Handle) (tag : Nat) (l : LinkPort), TakenNext s ⟨h, .pop tag⟩ l →
    let depth := s.table.stack.length
    let popped (t : State) : State :=
      ({ t with
        memory := { t.memory with free := t.memory.free + 1 }
        table := { t.table with stack := t.table.stack.dropLast } } : State).recompute.post (.done tag .pop .ok)
    let read := ({ s with link := l } : State).readEnvelope depth
    (depth ≤ 1 → exec .popTaken s = .next (s.ended l ⟨h, .pop tag⟩ .baseOnly))
    ∧ (∀ e t, 1 < depth → read = (.values e, t) → e.tag = tag → exec .popTaken s = .next (popped t))
    ∧ (∀ e t, 1 < depth → read = (.values e, t) → e.tag ≠ tag →
      exec .popTaken s = .next (t.post (.done tag .pop .tagMismatch)))
    ∧ (∀ t, 1 < depth → read = (.lost true, t) → exec .popTaken s = .next (popped t.recompute))
    ∧ (∀ t, 1 < depth → read = (.lost false, t) → exec .popTaken s = .next (popped t))

/-! ### Budgets -/

/-- The budgets in force and their recomputation (R58, R62, R66, R75, R76, R78 to R80): how the three values are formed from
the top entry, which is read, repaired or found LOST in the same step, and from the standing, and what a change of them does
at once to grants, to a pass in flight and to the pass flags. -/
def Obligations.RecomputedBudgetsLowerGrantsAtOnce : Prop :=
  (∀ s : State, s.recompute = s.formBudgets.2.applyBudgets s.formBudgets.1)
  ∧ (∀ s : State, s.table.stack = [] → s.formBudgets = (⟨0, 0, none⟩, s))
  ∧ (∀ (s : State) (below : List StackEntry) (top : StackEntry), s.table.stack = below ++ [top] →
      let st := s.table.standing
      let formed (drive ret cut : Nat) : Budgets :=
        if st.state = .normal then ⟨min drive st.availDrive, min ret st.availReturn, some cut⟩ else ⟨0, 0, some cut⟩
      let p := top.part.primary
      let q := top.part.shadow
      let stack (x : StackEntry) : Table := { s.table with stack := below ++ [x] }
      let depth := below.length + 1
      (top.condition = .lost → s.formBudgets = (formed s.table.g 0 1, s))
      ∧ (top.condition = .intact → p.good = true →
        s.formBudgets = (formed p.value.driveLimit p.value.returnLimit p.value.cut, s))
      ∧ (top.condition = .intact → p.good = false → q.good = true →
        s.formBudgets = (formed q.value.driveLimit q.value.returnLimit q.value.cut, { s with
          table := stack { top with part := ⟨q, q⟩ }
          memory := { s.memory with repairs := satInc 255 s.memory.repairs }
          link := s.link.post (.repairedEnvelope depth) }))
      ∧ (top.condition = .intact → p.good = false → q.good = false →
        s.formBudgets = (formed s.table.g 0 1, { s with
          table := stack { top with condition := .lost }
          link := s.link.post (.envelopeLost depth) })))
  ∧ ∀ (s : State) (b : Budgets),
      let old := s.table.budgets
      let t := s.applyBudgets b
      let fell := b.drive < old.drive ∨ b.ret < old.ret
      let p := if fell ∧ s.passes.inFlight.isSome = true then { s.passes with void := true } else s.passes
      t.table = { s.table with budgets := b } ∧ t.passes = (if b = old then p else p.call)
        ∧ (∀ h, let c := s.claim h
            let floor := c.floorHeld.getD 0
            t.claim h = { c with
              driveGrant := if b.drive < old.drive ∧ c.state.live = true ∧ floor < c.driveGrant then floor
                else c.driveGrant
              returnGrant := if b.ret < old.ret then 0 else c.returnGrant })
        ∧ t.link = s.link ∧ t.memory = s.memory ∧ t.channels = s.channels ∧ t.reports = s.reports
        ∧ t.monitor = s.monitor ∧ t.inputs = s.inputs ∧ t.pending = s.pending

/-! ### Grant passes -/

/-- PASS_START (R88 to R90): due when a pass is wanted and none is in flight, and otherwise nothing happens (that a start
not due changes nothing is log 4). The base parts of the
live claims are read; a lost one trips its claim and leaves it out; the rest enter, in ascending order of handle, the
snapshot the unit computes from (that the unit computes at once is log 22), and the flags are cleared. -/
def Obligations.PassStartSnapshotsTheLiveClaims : Prop :=
  ∀ s : State,
    (s.passes.wanted = false ∨ s.passes.inFlight.isSome = true → exec .passStart s = .next s)
    ∧ ∀ (r : Handle → Option BaseRecord), s.passes.wanted = true → s.passes.inFlight = none →
      (∀ h, (s.claim h).state.live = true → ∃ p, (s.recordsOf h).base = some p
        ∧ r h = (if p.primary.good then some p.primary.value
          else if p.shadow.good then some p.shadow.value else none)) →
      let entry (h : Handle) : Option SnapshotEntry :=
        let c := s.claim h
        if c.state.live then (r h).map (fun x =>
          ⟨h, x.level, (c.stageMap.map (·.cls)).getD x.cls, x.floor, c.estimate, c.side, x.flags.cutExempt⟩)
        else none
      let read (u : State) (h : Handle) : State :=
        if (r h).isSome then (u.readBase h).2 else (u.setClaim h { u.claim h with condition := some .lost }).enterTripped h
          .recordLost
      let t := (Handle.all.filter (fun h => (s.claim h).state.live)).foldl read s
      exec .passStart s = .next { t with
        passes := { s.passes with
          inFlight := some (Snapshot.compute ⟨s.table.budgets, Handle.all.filterMap entry⟩)
          wanted := false, void := false, rerun := false } }

/-- PASS_COMPLETION (R96, R102, R104): unless the pass is void its grants go to the claims still live and its slacks are
recorded; no pass is in flight; one waiting request, if any, is taken; and a new pass starts when the completed one was
void, or one was called for. Without a pass in flight nothing happens (log 4). -/
def Obligations.PassCompletionPublishesUnlessVoid : Prop :=
  ∀ s : State, s.settled = true →
    (s.passes.inFlight = none → exec .passCompletion s = .next s)
    ∧ ∀ p, s.passes.inFlight = some p → (p.grants.map (·.handle)).Nodup →
      let u := if s.passes.void then s else s.publish p
      let idle : State := { u with passes := { u.passes with inFlight := none } }
      let after (t : State) : State :=
        if s.passes.void || s.passes.rerun || t.passes.wanted then t.startPass else t
      (s.link.urgent = [] → s.link.normal = [] → exec .passCompletion s = .next (after idle))
      ∧ (∀ r rest, s.link.urgent = r :: rest →
        exec .passCompletion s
          = .next (after (({ idle with link := { s.link with urgent := rest } } : State).actOn r)))
      ∧ (∀ r rest, s.link.urgent = [] → s.link.normal = r :: rest →
        exec .passCompletion s
          = .next (after (({ idle with link := { s.link with normal := rest } } : State).actOn r)))
      ∧ (∀ g ∈ p.grants, (s.claim g.handle).state.live = true →
        (s.publish p).claim g.handle = { s.claim g.handle with driveGrant := g.drive, returnGrant := g.ret })
      ∧ (∀ h, (s.claim h).state.live = false ∨ h ∉ p.grants.map (·.handle) → (s.publish p).claim h = s.claim h)
      ∧ ∃ claims, s.publish p = { s with
        claims := claims
        passes := { s.passes with driveSlack := p.driveRemainder, returnSlack := p.returnRemainder } }

/-- The grant order (R86): each entry of a snapshot once, by level, then PAIR before AXIS before SPINDLE, then by handle; the
grants of a pass are computed in that order. -/
def Obligations.GrantOrderIsByLevelClassAndHandle : Prop :=
  ∀ sn : Snapshot, (sn.entries.map (·.handle)).Nodup →
    let place (c : ClaimClass) : Nat := match c with
      | .pair => 0
      | .axis => 1
      | .spindle => 2
    (grantOrder sn.entries).Perm sn.entries
      ∧ (grantOrder sn.entries).Pairwise (fun a b =>
        a.level < b.level ∨ (a.level = b.level
          ∧ (place a.cls < place b.cls ∨ (a.cls = b.cls ∧ a.handle < b.handle))))
      ∧ sn.compute.grants.map (·.handle) = (grantOrder sn.entries).map (·.handle)
      ∧ ∀ h c r, (snapshotEntry h c r).level = r.level ∧ ∀ m, c.stageMap = some m → (snapshotEntry h c r).cls = m.cls

/-- The computation of a pass, claim by claim in grant order (R93, R94): the drive grant is the floor plus an extra bounded by
the drive remainder, the return grant the lesser of the estimate and the return remainder; the cut bounds extras alone. -/
def Obligations.GrantsOfAPassFollowRemaindersInOrder : Prop :=
  ∀ (sn : Snapshot) (before : List SnapshotEntry) (e : SnapshotEntry) (behind : List SnapshotEntry),
    grantOrder sn.entries = before ++ e :: behind →
    let earlier := sn.compute.grants.take before.length
    let floors := (sn.entries.map (·.floor)).sum
    let driveLeft := sn.budgets.drive - floors - ((earlier.map (·.drive)).sum - (before.map (·.floor)).sum)
    let returnLeft := sn.budgets.ret - (earlier.map (·.ret)).sum
    let mayDraw := e.side = .drive ∧ ((∃ c, sn.budgets.cut = some c ∧ e.level ≤ c) ∨ e.cutExempt = true)
    ∃ drive ret, sn.compute.grants[before.length]? = some ⟨e.handle, drive, ret⟩
      ∧ (mayDraw → drive = e.floor + min driveLeft (e.estimate - e.floor))
      ∧ (¬mayDraw → drive = e.floor)
      ∧ e.floor ≤ drive ∧ drive ≤ max e.floor e.estimate
      ∧ (e.side = .ret → ret = min e.estimate returnLeft) ∧ (e.side = .drive → ret = 0)

/-- The slacks of a pass (R92, R95): with the floors within the drive budget, the grants of each side and its slack make up
that side's budget exactly; a snapshot with no claim has slacks equal to its budgets; and a drive slack above 0 shows that
every motoring claim within the cut received its estimate, or its floor where that is more. -/
def Obligations.GrantsAndSlackMakeUpTheBudget : Prop :=
  ∀ sn : Snapshot, (sn.entries.map (·.floor)).sum ≤ sn.budgets.drive →
    (sn.compute.grants.map (·.drive)).sum + sn.compute.driveRemainder = sn.budgets.drive
      ∧ (sn.compute.grants.map (·.ret)).sum + sn.compute.returnRemainder = sn.budgets.ret
      ∧ (sn.entries = [] → sn.compute.driveRemainder = sn.budgets.drive
          ∧ sn.compute.returnRemainder = sn.budgets.ret ∧ sn.compute.grants = [])
      ∧ (0 < sn.compute.driveRemainder → ∀ e ∈ sn.entries, ∀ c, e.side = .drive → sn.budgets.cut = some c → e.level ≤ c →
          ∃ ret, ⟨e.handle, max e.floor e.estimate, ret⟩ ∈ sn.compute.grants)

/-! ### Record memory -/

/-- Checked reads (R57 to R59, R62, R63): a good primary is read as it is, whatever the shadow; a bad one is repaired from a
good shadow, counted and noticed; with both bad the part is lost, which is neither counted nor noticed for a claim, and
makes an envelope LOST with its notice. -/
def Obligations.ChecksOnReadRepairOrLose : Prop :=
  ∀ s : State,
    (∀ h p, (s.recordsOf h).base = some p →
      (p.primary.good = true → s.readBase h = (some p.primary.value, s))
      ∧ (p.primary.good = false → p.shadow.good = true →
        s.readBase h = (some p.shadow.value, { s with
          memory := { s.memory with
            repairs := satInc 255 s.memory.repairs
            records := s.memory.records.set h.val
              ⟨some ⟨p.shadow, p.shadow⟩, (s.recordsOf h).optional⟩ h.isLt }
          link := s.link.post (.repairedBase h) }))
      ∧ (p.primary.good = false → p.shadow.good = false → s.readBase h = (none, s)))
    ∧ (∀ h p, (s.recordsOf h).optional = some p →
      (p.primary.good = true → s.readOptional h = (some p.primary.value, s))
      ∧ (p.primary.good = false → p.shadow.good = true →
        s.readOptional h = (some p.shadow.value, { s with
          memory := { s.memory with
            repairs := satInc 255 s.memory.repairs
            records := s.memory.records.set h.val
              ⟨(s.recordsOf h).base, some ⟨p.shadow, p.shadow⟩⟩ h.isLt }
          link := s.link.post (.repairedOptional h) }))
      ∧ (p.primary.good = false → p.shadow.good = false → s.readOptional h = (none, s)))
    ∧ ∀ depth e, 1 ≤ depth → s.table.stack[depth - 1]? = some e →
      let replaced (x : StackEntry) : Table := { s.table with stack := s.table.stack.set (depth - 1) x }
      (e.condition = .lost → s.readEnvelope depth = (.lost false, s))
      ∧ (e.condition = .intact → e.part.primary.good = true →
        s.readEnvelope depth = (.values e.part.primary.value, s))
      ∧ (e.condition = .intact → e.part.primary.good = false → e.part.shadow.good = true →
        s.readEnvelope depth = (.values e.part.shadow.value, { s with
          table := replaced { e with part := ⟨e.part.shadow, e.part.shadow⟩ }
          memory := { s.memory with repairs := satInc 255 s.memory.repairs }
          link := s.link.post (.repairedEnvelope depth) }))
      ∧ (e.condition = .intact → e.part.primary.good = false → e.part.shadow.good = false →
        s.readEnvelope depth = (.lost true, { s with
          table := replaced { e with condition := .lost }
          link := s.link.post (.envelopeLost depth) }))

/-- CELL_UPSET (R55): one copy of one record part becomes bad; nothing else changes, and an upset of a free cell, or of a
part that does not exist, has no effect. (That the struck copy keeps its values, which no read returns, is the model's
choice, log 9.) -/
def Obligations.CellUpsetSpoilsOneCopyUnseen : Prop :=
  ∀ s : State, s.settled = true →
    (∀ copy, exec (.cellUpset .freeCell copy) s = .next s)
    ∧ (∀ h p, (s.recordsOf h).base = some p →
      let struck (x : Machine.Part BaseRecord) : State := { s with
        memory := { s.memory with
          records := s.memory.records.set h.val ⟨some x, (s.recordsOf h).optional⟩ h.isLt } }
      exec (.cellUpset (.base h) .primary) s = .next (struck ⟨⟨p.primary.value, false⟩, p.shadow⟩)
      ∧ exec (.cellUpset (.base h) .shadow) s = .next (struck ⟨p.primary, ⟨p.shadow.value, false⟩⟩))
    ∧ (∀ h p, (s.recordsOf h).optional = some p →
      let struck (x : Machine.Part OptionalRecord) : State := { s with
        memory := { s.memory with
          records := s.memory.records.set h.val ⟨(s.recordsOf h).base, some x⟩ h.isLt } }
      exec (.cellUpset (.optional h) .primary) s = .next (struck ⟨⟨p.primary.value, false⟩, p.shadow⟩)
      ∧ exec (.cellUpset (.optional h) .shadow) s = .next (struck ⟨p.primary, ⟨p.shadow.value, false⟩⟩))
    ∧ (∀ depth e, 1 ≤ depth → s.table.stack[depth - 1]? = some e →
      let struck (x : Machine.Part Envelope) : State := { s with
        table := { s.table with stack := s.table.stack.set (depth - 1) ⟨x, e.condition⟩ } }
      let p := e.part
      exec (.cellUpset (.envelope depth) .primary) s = .next (struck ⟨⟨p.primary.value, false⟩, p.shadow⟩)
      ∧ exec (.cellUpset (.envelope depth) .shadow) s = .next (struck ⟨p.primary, ⟨p.shadow.value, false⟩⟩))
    ∧ (∀ h copy, (s.recordsOf h).base = none → exec (.cellUpset (.base h) copy) s = .next s)
    ∧ (∀ h copy, (s.recordsOf h).optional = none → exec (.cellUpset (.optional h) copy) s = .next s)
    ∧ ∀ depth copy, s.table.stack.length < depth → exec (.cellUpset (.envelope depth) copy) s = .next s

/-! ### Timers and protective inputs -/

/-- REFRESH_TIMER_EXPIRY and BRAKE_TIMER_EXPIRY (R5, R32, R33, R45): RUN becomes STALE at the hold demand or 0, its sign, band
and grants kept, unless the read finds the record lost; BRAKING becomes HALTED with gates off; a timer that is stopped does
not expire (log 21). -/
def Obligations.TimerExpiriesMakeStaleOrHalted : Prop :=
  ∀ (s : State) (h : Handle), s.settled = true →
    let c := s.claim h
    (∀ r s', c.state = .run → c.refreshTimer ≠ .stopped → s.readBase h = (some r, s') →
      let d := if r.flags.hold then r.holdDemand else 0
      exec (.refreshTimerExpiry h) s = .next { s' with
        claims := s.claims.set h.val
          { c with
            state := .stale, demand := d, estimate := r.estimate d c.sign c.band, side := drawSide d c.sign
            refreshTimer := .stopped } h.isLt
        passes := s.passes.call
        link := s'.link.post (.stale h) })
    ∧ (∀ s', c.state = .run → c.refreshTimer ≠ .stopped → s.readBase h = (none, s') →
      exec (.refreshTimerExpiry h) s
        = .next ((s.setClaim h { c with condition := some .lost }).enterTripped h .recordLost))
    ∧ (c.state ≠ .run ∨ c.refreshTimer = .stopped → exec (.refreshTimerExpiry h) s = .next s)
    ∧ (∀ m, c.state = .braking → c.brakeTimer ≠ .stopped → c.stageMap = some m →
      exec (.brakeTimerExpiry h) s = .next (({ s with
        claims := s.claims.set h.val
          { c with state := .halted, driveGrant := 0, returnGrant := 0, brakeTimer := .stopped } h.isLt
        passes := s.passes.call
        link := s.link.post (.halted h) } : State).onStages (some m) (fun k => { k with mode := .off, gates := .off })))
    ∧ (c.state ≠ .braking ∨ c.brakeTimer = .stopped → exec (.brakeTimerExpiry h) s = .next s)

/-- SAFE_OFF_ASSERTED and SAFE_OFF_RELEASED (R49, R134, R154, R155, R157): the assertion turns every gate output off and trips
every bound claim not yet TRIPPED, with one notice each in ascending order of handle; the release ends the hold and moves
no claim. (That the channel's own gates item stands beside the hold at the pins is log 17; that the release reports under
way end with an abandoned ramp is log 13.) -/
def Obligations.SafeOffHoldsGatesOffAndTripsClaims : Prop :=
  ∀ s : State, s.settled = true →
    (s.inputs.safeOff = false →
      let moved := Handle.all.filter (fun h => decide ((s.claim h).state ≠ .unbound ∧ (s.claim h).state ≠ .tripped))
      ∃ t, exec .safeOffAsserted s = .next t
        ∧ t.inputs = { s.inputs with safeOff := true } ∧ t.table = { s.table with safeOff := true }
        ∧ (∀ st, t.gateOutput st = .off)
        ∧ (∀ h ∈ moved, t.claim h = { s.claim h with
            state := .tripped, tripReason := some .safeOff, driveGrant := 0, returnGrant := 0, releaseBasis := none
            refreshTimer := .stopped, brakeTimer := .stopped })
        ∧ (∀ h, h ∉ moved → t.claim h = s.claim h)
        ∧ t.link = moved.foldl (fun l h => l.post (.tripped h .safeOff)) s.link
        ∧ t.passes = (if moved = [] then s.passes else s.passes.call)
        ∧ t.memory = s.memory ∧ t.monitor = s.monitor ∧ t.pending = s.pending
        ∧ ((∀ h, (s.claim h).state = .releasing → (s.claim h).stageMap.isSome = true) →
          t.reports = s.reports.filter
            (fun r => !(r.kind == .releaseComplete && decide ((s.claim r.handle).state = .releasing))))
        ∧ (∀ st, (∀ h ∈ moved, ∀ m, (s.claim h).stageMap = some m → st ∉ m.stages) → t.channel st = s.channel st)
        ∧ ∀ h ∈ moved, ∀ m, (s.claim h).stageMap = some m → ∀ st ∈ m.stages,
          (t.channel st).mode = .off ∧ (t.channel st).gates = .off ∧ (t.channel st).brakeEngaged = true)
    ∧ exec .safeOffReleased s = .next { s with
        inputs := { s.inputs with safeOff := false }, table := { s.table with safeOff := false } }

/-- STAGE_FAULT_ASSERTED and STAGE_FAULT_RELEASED (R138, R139, R143): an assertion at an owned stage turns the gates of all the
claim's stages off, sets their fault holds and sends one report; at an unowned stage only the input changes; the release
changes the input alone. An input already asserted is not asserted again (log 21). -/
def Obligations.StageFaultTurnsTheClaimsGatesOff : Prop :=
  ∀ (s : State) (st : Stage), s.settled = true →
    let level (b : Bool) : State := { s with
      inputs := { s.inputs with stageFaults := s.inputs.stageFaults.set st.val b st.isLt } }
    (∀ o m, s.stageFault st = false → (s.channel st).owner = some o → (s.claim o.handle).stageMap = some m →
      exec (.stageFaultAsserted st) s = .next ({ level true with
        channels := ((level true).onStages (some m) (fun k => { k with gates := .off, faultHold := true })).channels
        reports := s.reports ++ [⟨st, o.handle, .trip .stageFault⟩] }))
    ∧ (s.stageFault st = false → (s.channel st).owner = none →
      exec (.stageFaultAsserted st) s = .next (level true))
    ∧ (s.stageFault st = true → exec (.stageFaultAsserted st) s = .next s)
    ∧ exec (.stageFaultReleased st) s = .next (level false)

/-! ### Regulation channels -/

/-- Limits, reference and shortness of an expiry (R123 to R126): the magnitude limit of each class, the grant limit rounded
down, the reference the least of the three with the sign of d, never above the current limit, a grant that covers the
estimate bounding nothing, and shortness exactly where the grant limit lies below the lesser of |d| and L. -/
def Obligations.ReferenceIsLeastOfDemandLimitAndGrant : Prop :=
  (∀ (r : BaseRecord) (start : Nat) (limits : List Nat) (band : Band),
    (band.val < start → magnitudeLimit r (some (.weakening start limits)) band = r.currentLimit)
    ∧ ∀ x, start ≤ band.val → limits[band.val - start]? = some x →
      magnitudeLimit r (some (.weakening start limits)) band = min r.currentLimit x)
  ∧ (∀ (r : BaseRecord) (band : Band), magnitudeLimit r none band = r.currentLimit
    ∧ ∀ p l b, magnitudeLimit r (some (.pair p l b)) band = r.currentLimit)
  ∧ (∀ r o band, magnitudeLimit r o band ≤ r.currentLimit)
  ∧ (∀ g, grantLimit 0 g = none)
  ∧ (∀ c g, 0 < c → ∃ x, grantLimit c g = some x ∧ x * c ≤ g * 1000 ∧ g * 1000 < (x + 1) * c)
  ∧ (∀ (d : Int) (limit : Nat),
    (referenceOf d limit none).natAbs = min d.natAbs limit ∧ isShort d limit none = false
    ∧ ∀ x, (referenceOf d limit (some x)).natAbs = min (min d.natAbs limit) x
      ∧ (isShort d limit (some x) = true ↔ x < min d.natAbs limit))
  ∧ (∀ d limit dmax, (0 ≤ d → 0 ≤ referenceOf d limit dmax) ∧ (d ≤ 0 → referenceOf d limit dmax ≤ 0)
    ∧ (referenceOf d limit dmax).natAbs ≤ limit)
  ∧ ∀ (d : Int) (c g : Nat), 0 < c → d.natAbs * c ≤ 1000 * g → ∃ x, grantLimit c g = some x ∧ d.natAbs ≤ x

/-- The current law (R130, R132): truncated quotients, the candidate integrator held within its limit, and the command clamped to
±1000 with the integrator kept when it was clamped; both stages of a PAIR are driven so, each from its own integrator and its
own measured current, toward one reference (R123 to R125, R129). The gates are left off under a fault hold (R134); that they
keep the rotor angle of the expiry is log 17. -/
def Obligations.CurrentLawClampsAndWithholdsIntegrator : Prop :=
  (∀ (r : BaseRecord) (reference : Int) (k : Channel) (x : StageSample),
    let e := reference - x.torque
    let raw := k.integrator + ((r.ki : Int) * e).tdiv 1024
    let candidate := max (-(r.integratorLimit : Int)) (min (r.integratorLimit : Int) raw)
    let u := ((r.kp : Int) * e).tdiv 256 + candidate
    let t := k.drive r reference x
    (1000 < u → t.duty = 1000 ∧ t.integrator = k.integrator)
    ∧ (u < -1000 → t.duty = -1000 ∧ t.integrator = k.integrator)
    ∧ (-1000 ≤ u → u ≤ 1000 → t.duty = u ∧ t.integrator = candidate)
    ∧ t = { k with
        duty := t.duty, integrator := t.integrator, gates := if k.faultHold then .off else .driving x.angle })
  ∧ ∀ (s : State) (st p : Stage) (h : Handle) (c : Claim) (m : StageMap) (r : BaseRecord) (o : Option OptionalRecord)
    (d : Int) (own other : StageSample), m.partner = some p → p ≠ st →
    let side := drawSide d c.sign
    let grant := match side with
      | .drive => c.driveGrant
      | .ret => c.returnGrant
    let reference := referenceOf d (magnitudeLimit r o c.band) (grantLimit (r.coefficient side c.band) grant)
    let t := s.regulateToward st h c m r o d own other
    t.channel p = (s.channel p).drive r reference other
      ∧ (t.channel st).duty = ((s.channel st).drive r reference own).duty
      ∧ (t.channel st).integrator = ((s.channel st).drive r reference own).integrator

/-- REGULATION_EXPIRY that drives the bridge (R119, R121, R122, R126, R127, R132, R135, R141, R142): reads, no overcurrent, no
lasting imbalance and, in RELEASING, a ramp not yet at 0; the reference serves both stages of a PAIR, shortness is recorded
at the primary channel, and nothing else of the part changes but the repairs of the read. -/
def Obligations.ExpiryDrivesTheStagesTowardTheReference : Prop :=
  ∀ (s s' : State) (st : Stage) (own other : StageSample) (h : Handle) (m : StageMap) (r : BaseRecord)
    (o : Option OptionalRecord),
    s.settled = true → (s.channel st).owner = some ⟨h, .primary⟩ → (s.channel st).faultHold = false →
    (s.channel st).mode = .regulate → (s.claim h).state.live = true → (s.claim h).stageMap = some m →
    m.primary = st → m.partner ≠ some st → s.readRecords h m.cls = (some (r, o), s') →
    let c := s.claim h
    let k := s.channel st
    let peak (x : StageSample) : Nat := max x.phaseA.natAbs (max x.phaseB.natAbs x.phaseC.natAbs)
    peak own ≤ r.tripLevel → (m.partner.isSome = true → peak other ≤ r.tripLevel) →
    let count := match o with
      | some (.pair _ limit _) => if limit < (own.torque - other.torque).natAbs then k.imbalance + 1 else 0
      | _ => k.imbalance
    (∀ p l time, o = some (.pair p l time) → count < time) →
    let ramp := c.state = .releasing
    (ramp → rampStep k.ramped r.releaseStep ≠ 0) →
    let d := if ramp then rampStep k.ramped r.releaseStep else c.demand
    let side := drawSide d c.sign
    let grant := match side with
      | .drive => c.driveGrant
      | .ret => c.returnGrant
    let limit := magnitudeLimit r o c.band
    let dmax := grantLimit (r.coefficient side c.band) grant
    let reference := referenceOf d limit dmax
    let short := isShort d limit dmax
    let primary := ({ k with
      imbalance := count
      ramped := if ramp then d else k.ramped
      shortfall := if short then satInc 65535 k.shortfall else k.shortfall
      shortFlag := short } : Channel).drive r reference own
    let channels1 := s.channels.set st.val primary st.isLt
    exec (.regulationExpiry st own other) s = .next { s' with
      channels := match m.partner with
        | none => channels1
        | some p => channels1.set p.val ((s.channel p).drive r reference other) p.isLt
      link := if short = true ∧ k.shortfall = 0 ∧ r.flags.shortNotice = true then s'.link.post (.short h)
        else s'.link }

/-- REGULATION_EXPIRY that finds a fault (R59, R61, R65, R137, R140, R142, R143): a lost record first, then an overcurrent,
then an imbalance that has lasted the balance time turns the gates of the claim's stages off, sets their fault holds and
sends one report, forming no reference. A lost record is also reported by the memory, and the claim is LOST and TRIPPED in
the same step (R10, R50); that the channel's own report then stays under way, to find the claim TRIPPED, is log 12. -/
def Obligations.FaultAtExpiryTurnsGatesOffAndReports : Prop :=
  ∀ (s s' : State) (st : Stage) (own other : StageSample) (h : Handle) (m : StageMap),
    s.settled = true → (s.channel st).owner = some ⟨h, .primary⟩ → (s.channel st).faultHold = false →
    (s.channel st).mode = .regulate → (s.claim h).state.live = true → (s.claim h).stageMap = some m →
    let peak (x : StageSample) : Nat := max x.phaseA.natAbs (max x.phaseB.natAbs x.phaseC.natAbs)
    let faulted (u : State) (reason : TripReason) : State := { u with
      channels := (u.onStages (some m) (fun k => { k with gates := .off, faultHold := true })).channels
      reports := u.reports ++ [⟨st, h, .trip reason⟩] }
    (s.readRecords h m.cls = (none, s') →
      exec (.regulationExpiry st own other) s = .next (((faulted s' .recordLost).setClaim h
        { s.claim h with condition := some .lost }).enterTripped h .recordLost))
    ∧ ∀ r o, s.readRecords h m.cls = (some (r, o), s') →
      let exceeded := r.tripLevel < peak own ∨ (m.partner.isSome = true ∧ r.tripLevel < peak other)
      (exceeded → exec (.regulationExpiry st own other) s = .next (faulted s' .overcurrent))
      ∧ ∀ p limit time, ¬exceeded → o = some (.pair p limit time) →
        let count := if limit < (own.torque - other.torque).natAbs then (s.channel st).imbalance + 1 else 0
        time ≤ count →
        exec (.regulationExpiry st own other) s = .next (faulted { s' with
          channels := s'.channels.set st.val { s'.channel st with imbalance := count } st.isLt } .imbalance)

/-- The release ramp (R38, R40, R135, R136): each expiry steps the ramped demand toward 0 by the release step, keeping its
sign; the expiry that brings it to 0 turns the gates off and reports release complete, and forms no reference. -/
def Obligations.ReleaseRampEndsWithGatesOffAndReport : Prop :=
  (∀ (ramped : Int) (step : Nat),
    (ramped.natAbs ≤ step → rampStep ramped step = 0)
    ∧ ((step : Int) < ramped → rampStep ramped step = ramped - step)
    ∧ (ramped < -(step : Int) → rampStep ramped step = ramped + step))
  ∧ ∀ (s s' : State) (st : Stage) (own other : StageSample) (h : Handle) (m : StageMap) (r : BaseRecord)
    (o : Option OptionalRecord),
    s.settled = true → (s.channel st).owner = some ⟨h, .primary⟩ → (s.channel st).faultHold = false →
    (s.channel st).mode = .regulate → (s.claim h).state = .releasing → (s.claim h).stageMap = some m →
    s.readRecords h m.cls = (some (r, o), s') →
    let peak (x : StageSample) : Nat := max x.phaseA.natAbs (max x.phaseB.natAbs x.phaseC.natAbs)
    peak own ≤ r.tripLevel → (m.partner.isSome = true → peak other ≤ r.tripLevel) →
    let count := match o with
      | some (.pair _ limit _) =>
        if limit < (own.torque - other.torque).natAbs then (s.channel st).imbalance + 1 else 0
      | _ => (s.channel st).imbalance
    (∀ p l time, o = some (.pair p l time) → count < time) → (s.channel st).ramped.natAbs ≤ r.releaseStep →
    let ramped : State := { s' with
      channels := s'.channels.set st.val { s'.channel st with imbalance := count, ramped := 0 } st.isLt }
    exec (.regulationExpiry st own other) s = .next { s' with
      channels := (ramped.onStages (some m) (fun k => { k with gates := .off })).channels
      reports := s'.reports ++ [⟨st, h, .releaseComplete⟩] }

/-- REGULATION_EXPIRY without a reference (R119, R133, R139): an unowned stage, a partner stage, a set fault hold and OFF do no
work; in BRAKE the gates of the claim's stages take the braking pattern where no fault hold is set. -/
def Obligations.ExpiryInBrakeOrWithoutWork : Prop :=
  ∀ (s : State) (st : Stage) (own other : StageSample), s.settled = true →
    ((s.channel st).owner = none → exec (.regulationExpiry st own other) s = .next s)
    ∧ ∀ o, (s.channel st).owner = some o →
      (o.role = .partner ∨ (s.channel st).faultHold = true ∨ (s.channel st).mode = .off →
        exec (.regulationExpiry st own other) s = .next s)
      ∧ ∀ m, o.role = .primary → (s.channel st).faultHold = false → (s.channel st).mode = .brake →
        (s.claim o.handle).stageMap = some m →
        ∃ channels, exec (.regulationExpiry st own other) s = .next { s with channels := channels }
          ∧ ∀ x : Stage, channels.get x = (if x ∈ m.stages ∧ (s.channel x).faultHold = false then
              { s.channel x with gates := .brakingPattern }
            else s.channel x)

/-- TRIP_REPORT and RELEASE_COMPLETION (R40, R47, R48, R50, R140): the oldest report of the stage and kind is taken (that it is
the oldest is the model's choice, log 13); a trip report trips the claim it names while that claim still owns the stage, and
one already TRIPPED keeps its reason; a record loss leaves the condition LOST, as the channel's read made it already (log
12); a completion frees a claim still RELEASING; any other report is discarded. With none under way nothing happens (log 4).
-/
def Obligations.ReportsActOnTheClaimThatStillOwnsTheStage : Prop :=
  ∀ (s : State) (st : Stage), s.settled = true →
    let tripOf (x : Report) : Bool := x.stage == st && x.kind.isTrip
    let doneOf (x : Report) : Bool := x.stage == st && !x.kind.isTrip
    ((∀ x ∈ s.reports, tripOf x = false) → exec (.tripReport st) s = .next s)
    ∧ ((∀ x ∈ s.reports, doneOf x = false) → exec (.releaseCompletion st) s = .next s)
    ∧ ∀ (before behind : List Report) (x : Report), s.reports = before ++ x :: behind →
      let rest : State := { s with reports := before ++ behind }
      let owns := ∃ m, (s.claim x.handle).stageMap = some m ∧ st ∈ m.stages
      (tripOf x = true → (∀ y ∈ before, tripOf y = false) →
        (¬owns → exec (.tripReport st) s = .next rest)
        ∧ (owns → x.kind = .trip .recordLost → (s.claim x.handle).state ≠ .unbound →
          exec (.tripReport st) s = .next ((rest.setClaim x.handle
            { s.claim x.handle with condition := some .lost }).enterTripped x.handle .recordLost))
        ∧ ∀ reason, owns → x.kind = .trip reason → reason ≠ .recordLost →
          exec (.tripReport st) s = .next (rest.enterTripped x.handle reason))
      ∧ (doneOf x = true → (∀ y ∈ before, doneOf y = false) →
        (owns → (s.claim x.handle).state = .releasing →
          exec (.releaseCompletion st) s = .next (rest.freeClaim x.handle))
        ∧ (¬owns ∨ (s.claim x.handle).state ≠ .releasing → exec (.releaseCompletion st) s = .next rest))

/-! ### The supply -/

/-- What the table does at the post of a supply fault (R43, R44, R82): the standing is FAULT and the top entry is read, so
that both budgets are 0 and the cut stays the top's (RecomputedBudgetsLowerGrantsAtOnce states formBudgets); every grant is
0, a pass in flight is void and a pass is called for; then the live claims enter BRAKING in ascending order of handle
(EnteringBrakingEngagesBrakesAndTimer), and no claim is live after it. G and the depth stand, and of the stack only the top
can change, by the repair or loss its read finds. (That the top is read before the brake-time reads is log 14.) -/
def Obligations.SupplyFaultLeavesNoGrantAndNoLiveClaim : Prop :=
  ∀ (s : State) (drive ret : Nat),
    let t := s.supplyFault drive ret
    let posted : State := { s with table := { s.table with standing := ⟨.fault, drive, ret⟩ } }
    let read := posted.formBudgets.2
    let moved := Handle.all.filter (fun h => (s.claim h).state.live)
    let passes := if s.passes.inFlight.isSome then { s.passes with void := true, rerun := true }
      else { s.passes with wanted := true }
    t.table.standing = ⟨.fault, drive, ret⟩ ∧ t.table.budgets.drive = 0 ∧ t.table.budgets.ret = 0
      ∧ t.table.budgets.cut = posted.formBudgets.1.cut
      ∧ (∀ below top, s.table.stack = below ++ [top] → top.condition = .intact → top.part.primary.good = true →
        t.table.budgets.cut = some top.part.primary.value.cut ∧ t.table.stack = s.table.stack)
      ∧ t.table.g = s.table.g ∧ t.table.stack.length = s.table.stack.length
      ∧ t.table.stack.dropLast = s.table.stack.dropLast
      ∧ (∃ claims : Vector Claim 16, (∀ h : Handle, claims.get h = { s.claim h with driveGrant := 0, returnGrant := 0 })
        ∧ t = moved.foldl (fun u h => u.enterBraking h) { read with
          claims := claims, passes := passes, table := { read.table with budgets := posted.formBudgets.1 } })
      ∧ (∀ h, (t.claim h).driveGrant = 0 ∧ (t.claim h).returnGrant = 0 ∧ (t.claim h).state.live = false)
      ∧ (∀ h, (s.claim h).state.live = true → (t.claim h).state = .braking ∨ (t.claim h).state = .tripped)
      ∧ (∀ h, (s.claim h).state.live = false →
        t.claim h = { s.claim h with driveGrant := 0, returnGrant := 0 })
      ∧ t.passes = passes
      ∧ t.monitor = s.monitor ∧ t.inputs = s.inputs ∧ t.pending = s.pending

/-- SUPPLY_FRAME (R144 to R148, R151, R152, R176): a bad frame is counted and has no other effect; while UNCONFIGURED a good
one is recorded; while READY it restarts the timer, is recorded and judged, and a change of state or of reason posts its
SUPPLY notice before the table acts on it. (That a change of reason within FAULT moves the standing alone is log 15.) -/
def Obligations.SupplyFrameIsRecordedAndJudged : Prop :=
  ∀ (s : State), s.settled = true →
    let body (a b : Nat) (ready : Bool) : List Octet := octets16 a ++ octets16 b ++ [markOctet ready]
    let frame (a b : Nat) (ready : Bool) : List LineChar :=
      clean (body a b ready ++ wordOctets (frameCheck (body a b ready)))
    (∀ chars, (∀ a b ready, a ≤ 4000 → b ≤ 4000 → chars ≠ frame a b ready) →
      exec (.supplyFrame chars) s = .next { s with
        monitor := { s.monitor with checkErrors := satInc 255 s.monitor.checkErrors } })
    ∧ ∀ a b ready, a ≤ 4000 → b ≤ 4000 →
      let x := exec (.supplyFrame (frame a b ready)) s
      (s.table.partState = .unconfigured →
        x = .next { s with monitor := { s.monitor with lastDrive := a, lastReturn := b, lastReady := ready } })
      ∧ ∀ timeout, s.table.partState = .ready → s.monitor.timeout = some timeout →
        let taken : State := { s with
          monitor := { s.monitor with
            timer := .running timeout, lastDrive := a, lastReturn := b, lastReady := ready } }
        let changed (st : SupplyState) (reason : SupplyReason) : State := { taken with
          monitor := { taken.monitor with state := st, reason := some reason }
          link := s.link.post (.supply st (some reason)) }
        let standing (u : State) (st : SupplyState) : State := { u with
          table := { u.table with standing := ⟨st, a, b⟩ } }
        let normal := ready = true ∧ s.monitor.g ≤ a
        let reason : SupplyReason := if ready then .belowFloor else .notReady
        (normal → s.monitor.state ≠ .normal →
          x = .next (standing (changed .normal .recovered) .normal).recompute)
        ∧ (normal → s.monitor.state = .normal → s.monitor.lastDrive = a → s.monitor.lastReturn = b → x = .next taken)
        ∧ (normal → s.monitor.state = .normal → ¬(s.monitor.lastDrive = a ∧ s.monitor.lastReturn = b) →
          x = .next (standing taken .normal).recompute)
        ∧ (¬normal → s.monitor.state ≠ .fault → x = .next ((changed .fault reason).supplyFault a b))
        ∧ (¬normal → s.monitor.state = .fault → s.monitor.reason = some reason → x = .next taken)
        ∧ (¬normal → s.monitor.state = .fault → s.monitor.reason ≠ some reason →
          x = .next (standing (changed .fault reason) .fault))

/-- SUPPLY_TIMEOUT_EXPIRY (R149, R151, R152): the timer stops and the supply fails with reason TIMEOUT, carrying the last
capability; within FAULT the reason alone becomes TIMEOUT. A stopped timer does not expire (log 21). -/
def Obligations.SupplyTimeoutFailsTheSupply : Prop :=
  ∀ s : State, s.settled = true →
    let failed : State := { s with
      monitor := { s.monitor with timer := .stopped, state := .fault, reason := some .timeout }
      link := s.link.post (.supply .fault (some .timeout)) }
    (s.monitor.timer = .stopped → exec .supplyTimeoutExpiry s = .next s)
    ∧ (s.monitor.timer ≠ .stopped → s.monitor.state ≠ .fault →
      exec .supplyTimeoutExpiry s = .next (failed.supplyFault s.monitor.lastDrive s.monitor.lastReturn))
    ∧ (s.monitor.timer ≠ .stopped → s.monitor.state = .fault → s.monitor.reason ≠ some .timeout →
      exec .supplyTimeoutExpiry s = .next { failed with
        table := { s.table with standing := ⟨.fault, s.monitor.lastDrive, s.monitor.lastReturn⟩ } })

/-! ### Power-on reset -/

/-- POWER_ON_RESET (R8, R24, R52, R74, R75, R84, R117, R118, R146, R154, R164, R175): every block at its value after a power-on
reset, the station and the input levels those found at its end. That the commands still to arrive stand is log 20. -/
def Obligations.PowerOnResetGivesEveryBlockItsInitialValue : Prop :=
  ∀ (levels : InputLevels) (s : State), ∃ t, exec (.powerOnReset levels) s = .next t
    ∧ (∀ h, t.claim h = Claim.unbound ∧ t.recordsOf h = ClaimRecords.none)
    ∧ t.memory.free = 32 ∧ t.memory.repairs = 0
    ∧ t.table = ⟨.unconfigured, 0, 0, [], ⟨0, 0, none⟩, ⟨.absent, 0, 0⟩, levels.safeOff⟩
    ∧ t.passes = ⟨none, false, false, false, 0, 0⟩
    ∧ (∀ st, t.channel st = ⟨none, .off, false, .off, 0, 0, 0, 0, 0, false, true⟩)
    ∧ t.monitor = ⟨.absent, none, 0, 0, false, 0, none, .stopped, 0⟩
    ∧ t.link.station = levels.straps ∧ t.link.urgent = [] ∧ t.link.normal = [] ∧ t.link.notices = []
    ∧ t.link.headerErrors = 0 ∧ t.link.frameErrors = 0 ∧ t.link.formatErrors = 0 ∧ t.link.dropped = 0
    ∧ t.link.lostNotices = 0 ∧ t.link.cycleRefusals = 0 ∧ t.link.replyExpected = false
    ∧ t.link.driverOn = false ∧ t.link.sent = []
    ∧ t.reports = [] ∧ t.inputs.safeOff = levels.safeOff
    ∧ (∀ st : Stage, t.stageFault st = levels.stageFaults.getLsbD st.val) ∧ t.pending = s.pending

/-! ### The laws -/

/-- The laws hold in State.reset and after every power-on reset. -/
def Obligations.LawsHoldAfterReset : Prop :=
  Laws State.reset ∧ ∀ (levels : InputLevels) (s t : State), exec (.powerOnReset levels) s = .next t → Laws t

/-- Every step keeps the bounds of the port's queues, FIFO and counters, what waits stays in range, and the driver is on only
for a reply of the port's own (R107, R108, R160, R162, R172, R184 to R186). (That the driver's item stands on until a frame
comes after the reply, and the reply in `sent`, is the model's choice, logs 6 and 7.) -/
def Obligations.EveryStepKeepsThePortBounds : Prop :=
  ∀ s t : State, PortLaw s → step s = .next t → PortLaw t

/-- Every step keeps each entry in agreement with its state: what is present, which timer runs, and no grant held by a claim
that is not live (R8, R22, R25). -/
def Obligations.EveryStepKeepsEntriesTrueToTheirState : Prop :=
  ∀ s t : State, Laws s → step s = .next t → ClaimLaw t

/-- Every step keeps claims and channels in agreement: each stage owned once and by the claim that names it, drive mode and
brake following the claim's state, gates off wherever the mode is OFF or a fault is held (R9, R22, R26, R134); the
table's record of safe-off is the input, and while it is asserted every bound claim is TRIPPED (R49, R154, R156). (That a
report of a lost record under way names a claim LOST already is log 12.) -/
def Obligations.EveryStepKeepsChannelsTrueToTheirClaims : Prop :=
  ∀ s t : State, Laws s → step s = .next t → ChannelLaw t

/-- Every step keeps the accounts: cells used and free total 32, and the sum of floors is that of the bound claims and never
exceeds G (R4, R53, R67). -/
def Obligations.EveryStepKeepsCellsAndFloorsAccounted : Prop :=
  ∀ s t : State, Laws s → step s = .next t → LedgerLaw t

/-- Every step keeps supply, budgets and passes consistent: a NORMAL supply covers G, no claim is live without it, and the
result of a pass that is not void fits the budgets in force (R74, R84, R92, R97, R102). -/
def Obligations.EveryStepKeepsSupplyAndPassesConsistent : Prop :=
  ∀ s t : State, Laws s → step s = .next t → SupplyLaw t ∧ PassLaw t

/-- On each of the drive and return sides, the sum of the grants in force never exceeds the budget in force, after any step
(R81). -/
def Obligations.EveryStepKeepsGrantsWithinTheBudgets : Prop :=
  ∀ s t : State, Laws s → step s = .next t → BudgetLaw t

end
end

