-- ==== Sys2Proof/Laws/Frames.lean ====
section
/-! SUPPORT. Reading back what is laid out on the line: octets and fields, the header, the frame check, and the judging of
a frame that passes the checks up to the frame check. -/

namespace Sys2Proof.Machine

/-! ### Octets and fields -/

theorem octetOf_toNat (n : Nat) (hn : n < 256) : (octetOf n).toNat = n := by
  simp [octetOf, Nat.mod_eq_of_lt hn]

/-- The two octets of a word, put together again. -/
theorem word_of_octets (w : BitVec 16) : w.extractLsb' 8 8 ++ w.extractLsb' 0 8 = w := by
  apply BitVec.eq_of_getLsbD_eq
  intro i hi
  simp only [BitVec.getLsbD_append, BitVec.getLsbD_extractLsb']
  split
  · simp_all
  · simp_all; omega

/-- An unsigned field reads back. -/
theorem u16_octets16 (n : Nat) (hn : n < 65536) :
    u16 ((BitVec.ofNat 16 n).extractLsb' 8 8) ((BitVec.ofNat 16 n).extractLsb' 0 8) = n := by
  simp only [u16, BitVec.extractLsb'_toNat, BitVec.toNat_ofNat, Nat.shiftRight_eq_div_pow]
  omega

/-- An unsigned field of two octets lies below 65536. -/
theorem u16_lt (a b : Octet) : u16 a b < 65536 := by
  have := a.isLt
  have := b.isLt
  unfold u16
  omega

/-- A signed field reads back. -/
theorem s16_signedOctets16 (x : Int) (hl : -32768 ≤ x) (hu : x < 32768) :
    s16 ((BitVec.ofInt 16 x).extractLsb' 8 8) ((BitVec.ofInt 16 x).extractLsb' 0 8) = x := by
  rw [s16, word_of_octets, BitVec.toInt_ofInt, Int.bmod_def]
  split <;> omega

/-- Motion sign and band read back. -/
theorem parseSignBand_signBandOctet (sign : MotionSign) (band : Band) :
    parseSignBand (signBandOctet sign band) = some (sign, band) := by
  cases sign <;> revert band <;> decide

/-- Flags read back. -/
theorem parseFlags_octet (f : Flags) : parseFlags f.octet = some f := by
  rcases f with ⟨a, b, c⟩
  cases a <;> cases b <;> cases c <;> decide

/-- A class reads back. -/
theorem classOfOctet_code (c : ClaimClass) : classOfOctet c.code = some c := by cases c <;> decide

/-- A stage number reads back. -/
theorem parseStage_octetOf (st : Stage) : parseStage (octetOf st.val) = some st := by revert st; decide

/-! ### Verbs and the header -/

@[simp] theorem Verb.ofCode_code (v : Verb) : Verb.ofCode v.code = some v := by cases v <;> decide

/-- A code is that of at most one verb. -/
theorem Verb.ofCode_eq_some (c : BitVec 5) (v : Verb) : Verb.ofCode c = some v ↔ v.code = c := by
  constructor
  · intro h
    simpa [Verb.ofCode] using List.find?_some h
  · rintro rfl
    exact v.ofCode_code

/-- A code is unknown when it is that of no verb. -/
theorem Verb.ofCode_eq_none (c : BitVec 5) : Verb.ofCode c = none ↔ ∀ v : Verb, v.code ≠ c := by
  constructor
  · intro h v hv
    rw [(Verb.ofCode_eq_some c v).2 hv] at h
    cases h
  · intro h
    rcases ho : Verb.ofCode c with _ | v
    · rfl
    · exact absurd ((Verb.ofCode_eq_some c v).1 ho) (h v)

/-- The header of a command's frame is good when no character of it was faulted and its check agrees (R163). -/
theorem goodHeader_withCode (f : Frame) (code : BitVec 5) (hf : f.headerFaulted = false)
    (hc : f.headerCheck = headerCheckOf f.station code f.handle f.urgent) :
    (f.withCode code).goodHeader = some ⟨f.station, code, f.handle, f.urgent, f.headerCheck⟩ := by
  simp [Frame.withCode, PortFrame.goodHeader, hf, hc]

/-! ### The frame check -/

/-- The two octets that close a frame are its last two. -/
theorem splitCheck_eq_some (os p : List Octet) (hi lo : Octet) :
    splitCheck os = some (p, hi, lo) ↔ os = p ++ [hi, lo] := by
  unfold splitCheck
  constructor
  · split
    · rename_i l h rest e
      intro he
      simp only [Option.some.injEq, Prod.mk.injEq] at he
      obtain ⟨rfl, rfl, rfl⟩ := he
      have := congrArg List.reverse e
      simpa using this
    · simp
  · rintro rfl
    simp

/-- The upper octet of two put together. -/
theorem upper_octet (hi lo : Octet) : (hi ++ lo : BitVec (8 + 8)).extractLsb' 8 8 = hi := by
  apply BitVec.eq_of_getLsbD_eq
  intro i hk
  rw [BitVec.getLsbD_extractLsb', BitVec.getLsbD_append]
  simp [hk]

/-- The lower octet of two put together. -/
theorem lower_octet (hi lo : Octet) : (hi ++ lo : BitVec (8 + 8)).extractLsb' 0 8 = lo := by
  apply BitVec.eq_of_getLsbD_eq
  intro i hk
  rw [BitVec.getLsbD_extractLsb', BitVec.getLsbD_append]
  simp [hk]

/-- Two octets that make up a word are the octets of that word. -/
theorem wordOctets_eq (w : BitVec 16) (hi lo : Octet) : w = hi ++ lo ↔ wordOctets w = [hi, lo] := by
  unfold wordOctets
  constructor
  · rintro rfl
    exact congrArg₂ (fun a b => [a, b]) (upper_octet hi lo) (lower_octet hi lo)
  · intro h
    simp only [List.cons.injEq, and_true] at h
    rw [← h.1, ← h.2, word_of_octets]

/-- Characters without a fault are clean, and conversely. -/
theorem clean_of_unfaulted (cs : List LineChar) (h : cs.any (·.faulted) = false) : cs = clean (cs.map (·.octet)) := by
  induction cs with
  | nil => rfl
  | cons c cs ih =>
    simp only [List.any_cons, Bool.or_eq_false_iff] at h
    rcases c with ⟨o, f⟩
    simp only at h
    rw [h.1]
    simpa [clean] using ih h.2

@[simp] theorem clean_unfaulted (os : List Octet) : (clean os).any (·.faulted) = false := by
  induction os <;> simp_all [clean]

@[simp] theorem clean_octets (os : List Octet) : (clean os).map (·.octet) = os := by
  induction os <;> simp_all [clean]

/-- The frames that pass the frame check with a payload (R165). -/
theorem checkedPayload_eq_some (f : PortFrame) (h : Header) (p : List Octet) :
    f.checkedPayload h = some p ↔ f.body = clean (p ++ wordOctets (frameCheck (h.octets ++ p))) := by
  unfold PortFrame.checkedPayload
  constructor
  · split
    · simp
    · rename_i hf
      split
      · simp
      · rename_i q hi lo e
        split
        · rename_i hc
          intro hq
          cases hq
          rw [clean_of_unfaulted f.body (by simpa using hf), (splitCheck_eq_some _ _ _ _).1 e,
            (wordOctets_eq _ _ _).1 hc]
        · simp
  · intro hb
    have hs : splitCheck (f.body.map (·.octet))
        = some (p, (frameCheck (h.octets ++ p)).extractLsb' 8 8, (frameCheck (h.octets ++ p)).extractLsb' 0 8) := by
      rw [hb, clean_octets]
      exact (splitCheck_eq_some _ _ _ _).2 rfl
    rw [hs]
    simp [hb, word_of_octets]

/-! ### Judging a frame -/

/-- A frame that the port's own reply covers is lost to it (R160, R171). -/
theorem judge_of_deaf (s : State) (f : PortFrame) (hd : s.link.driverOn = true) (hf : f.duringReply = true) :
    judge f s = .lost := by
  simp [judge, LinkPort.deafTo, hd, hf]

/-- A frame that the port hears is not lost to it. -/
theorem heard_not_deaf (s : State) (d : Bool) (hh : Heard s d) : s.link.deafTo d = false := by
  rcases hh with h | h <;> simp [LinkPort.deafTo, h]

/-- A frame that passes checks 1 to 3 of R166 is judged by its format and payload. -/
theorem judge_of_checked (s : State) (code : BitVec 5) (f : Frame) (p : List Octet) (hf : Checked s code f p) :
    judge (f.withCode code) s =
      (let h : Header := ⟨f.station, code, f.handle, f.urgent, f.headerCheck⟩
       match formatVerb (f.withCode code) code h.broadcast p with
       | none => .formatBad h
       | some v => judgePayload s.link.station s.table.partState h v p) := by
  obtain ⟨⟨hg, hfault, hcheck, hst⟩, hb⟩ := hf
  have hpay : (f.withCode code).checkedPayload ⟨f.station, code, f.handle, f.urgent, f.headerCheck⟩ = some p :=
    (checkedPayload_eq_some _ _ _).2 hb
  have hadd : (Header.addressed ⟨f.station, code, f.handle, f.urgent, f.headerCheck⟩ s.link.station
      || Header.broadcast ⟨f.station, code, f.handle, f.urgent, f.headerCheck⟩) = true := by
    simp only [Header.addressed, Header.broadcast, Bool.or_eq_true, beq_iff_eq]
    exact hst
  have hd : s.link.deafTo (f.withCode code).duringReply = false := heard_not_deaf s _ hg.1
  have hr : ¬(s.link.replyExpected = true ∧ (f.withCode code).gapNs ≤ Config.replyWindowNs) := by
    rintro ⟨h1, h2⟩
    rcases hg.2 with hg | hg
    · simp [hg] at h1
    · exact absurd h2 (Nat.not_le.2 hg)
  unfold judge
  rw [if_neg (by simp [hd]), if_neg hr, goodHeader_withCode f code hfault hcheck]
  simp only [hadd, if_true, hpay] <;> rfl

/-- A frame that passes checks 1 and 2 of R166 and no frame check is refused for it. -/
theorem judge_of_checkBad (s : State) (code : BitVec 5) (f : Frame) (hf : ForThisPart s code f)
    (hb : ∀ p, f.body ≠ checkedBody code f p) :
    judge (f.withCode code) s = .checkBad ⟨f.station, code, f.handle, f.urgent, f.headerCheck⟩ := by
  obtain ⟨hg, hfault, hcheck, hst⟩ := hf
  have hpay : (f.withCode code).checkedPayload ⟨f.station, code, f.handle, f.urgent, f.headerCheck⟩ = none := by
    rcases ho : (f.withCode code).checkedPayload ⟨f.station, code, f.handle, f.urgent, f.headerCheck⟩ with _ | p
    · rfl
    · exact absurd ((checkedPayload_eq_some _ _ _).1 ho) (hb p)
  have hadd : (Header.addressed ⟨f.station, code, f.handle, f.urgent, f.headerCheck⟩ s.link.station
      || Header.broadcast ⟨f.station, code, f.handle, f.urgent, f.headerCheck⟩) = true := by
    simp only [Header.addressed, Header.broadcast, Bool.or_eq_true, beq_iff_eq]
    exact hst
  have hd : s.link.deafTo (f.withCode code).duringReply = false := heard_not_deaf s _ hg.1
  have hr : ¬(s.link.replyExpected = true ∧ (f.withCode code).gapNs ≤ Config.replyWindowNs) := by
    rintro ⟨h1, h2⟩
    rcases hg.2 with hg | hg
    · simp [hg] at h1
    · exact absurd h2 (Nat.not_le.2 hg)
  unfold judge
  rw [if_neg (by simp [hd]), if_neg hr, goodHeader_withCode f code hfault hcheck]
  simp only [hadd, if_true, hpay]

/-- What a verb's command does is what its frame does at the port. -/
theorem exec_instr (v : Verb) (f : Frame) (s : State) : exec (v.instr f) s = .next (s.takeFrame (f.withCode v.code)) := by
  cases v <;> rfl

/-- An answer at the port is the reply of the statements. -/
theorem answer_eq_replied (s : State) (code : BitVec 5) (f : Frame) (st : Status) (payload : List Octet) :
    s.answer ⟨f.station, code, f.handle, f.urgent, f.headerCheck⟩ st payload = s.replied code f st payload := by
  simp [State.answer, State.replied, LinkPort.replied, Header.broadcast]
  rfl

end Sys2Proof.Machine
end

