-- ==== Sys2Proof/Laws/State.lean ====
section
/-! SUPPORT. One lemma per field and update: what reading a part of the state gives after an update of it, and that the
other parts stand. Later proofs cite these and unfold no record update. -/

namespace Sys2Proof.Machine

/-! ### Reading an entry after it, or another, is replaced -/

@[simp] theorem State.claim_setClaim_self (s : State) (h : Handle) (c : Claim) : (s.setClaim h c).claim h = c := by
  simp [State.claim, State.setClaim, Vector.get_eq_getElem]

theorem State.claim_setClaim_of_ne (s : State) (h k : Handle) (c : Claim) (hk : k ≠ h) :
    (s.setClaim h c).claim k = s.claim k := by
  have : h.val ≠ k.val := fun e => hk (Fin.ext e.symm)
  simp [State.claim, State.setClaim, Vector.get_eq_getElem, Vector.getElem_set_ne, this]

theorem State.claim_setClaim (s : State) (h k : Handle) (c : Claim) :
    (s.setClaim h c).claim k = if k = h then c else s.claim k := by
  split
  · subst_vars; exact s.claim_setClaim_self _ c
  · exact s.claim_setClaim_of_ne h k c ‹_›

@[simp] theorem State.channel_setChannel_self (s : State) (st : Stage) (k : Channel) :
    (s.setChannel st k).channel st = k := by
  simp [State.channel, State.setChannel, Vector.get_eq_getElem]

theorem State.channel_setChannel_of_ne (s : State) (st x : Stage) (k : Channel) (hx : x ≠ st) :
    (s.setChannel st k).channel x = s.channel x := by
  have : st.val ≠ x.val := fun e => hx (Fin.ext e.symm)
  simp [State.channel, State.setChannel, Vector.get_eq_getElem, Vector.getElem_set_ne, this]

theorem State.channel_modChannel (s : State) (st x : Stage) (f : Channel → Channel) :
    (s.modChannel st f).channel x = if x = st then f (s.channel st) else s.channel x := by
  unfold State.modChannel
  split
  · subst_vars; exact s.channel_setChannel_self _ _
  · exact s.channel_setChannel_of_ne st x _ ‹_›

@[simp] theorem State.recordsOf_setRecords_self (s : State) (h : Handle) (r : ClaimRecords) :
    (s.setRecords h r).recordsOf h = r := by
  simp [State.recordsOf, State.setRecords, Vector.get_eq_getElem]

theorem State.recordsOf_setRecords_of_ne (s : State) (h k : Handle) (r : ClaimRecords) (hk : k ≠ h) :
    (s.setRecords h r).recordsOf k = s.recordsOf k := by
  have : h.val ≠ k.val := fun e => hk (Fin.ext e.symm)
  simp [State.recordsOf, State.setRecords, Vector.get_eq_getElem, Vector.getElem_set_ne, this]

theorem mapVector_get {α : Type} {n : Nat} (f : α → α) (v : Vector α n) (i : Fin n) :
    (mapVector f v).get i = f (v.get i) := by
  cases v with
  | mk a ha =>
    simp only [mapVector, Vector.get, List.getElem_toArray, Fin.val_cast, List.getElem_map, Array.getElem_toList, Vector.toList]
    try rfl

@[simp] theorem State.claim_mapClaims (s : State) (f : Claim → Claim) (h : Handle) :
    (s.mapClaims f).claim h = f (s.claim h) := mapVector_get f s.claims h

@[simp] theorem State.setRecords_free (s : State) (h : Handle) (r : ClaimRecords) :
    (s.setRecords h r).memory.free = s.memory.free := rfl

@[simp] theorem State.setRecords_repairs (s : State) (h : Handle) (r : ClaimRecords) :
    (s.setRecords h r).memory.repairs = s.memory.repairs := rfl

/-- The claims read alike exactly when the vectors are equal. -/
theorem State.claims_ext (s t : State) (heq : ∀ h, s.claim h = t.claim h) : s.claims = t.claims := by
  apply Vector.ext
  intro i hi
  exact heq ⟨i, hi⟩

/-- The channels read alike exactly when the vectors are equal. -/
theorem State.channels_ext (s t : State) (heq : ∀ st, s.channel st = t.channel st) : s.channels = t.channels := by
  apply Vector.ext
  intro i hi
  exact heq ⟨i, hi⟩

/-- A claim is read from the claims alone. -/
theorem State.claim_congr {s t : State} (heq : s.claims = t.claims) (h : Handle) : s.claim h = t.claim h := by
  simp [State.claim, heq]

/-- A channel is read from the channels alone. -/
theorem State.channel_congr {s t : State} (heq : s.channels = t.channels) (st : Stage) : s.channel st = t.channel st := by
  simp [State.channel, heq]

/-- The record parts of a handle are read from the memory alone. -/
theorem State.recordsOf_congr {s t : State} (heq : s.memory = t.memory) (h : Handle) :
    s.recordsOf h = t.recordsOf h := by
  simp [State.recordsOf, heq]

/-! ### The blocks each update leaves -/

@[simp] theorem State.setClaim_link (s : State) (h : Handle) (c : Claim) : (s.setClaim h c).link = s.link := rfl
@[simp] theorem State.setClaim_table (s : State) (h : Handle) (c : Claim) : (s.setClaim h c).table = s.table := rfl
@[simp] theorem State.setClaim_passes (s : State) (h : Handle) (c : Claim) : (s.setClaim h c).passes = s.passes := rfl
@[simp] theorem State.setClaim_memory (s : State) (h : Handle) (c : Claim) : (s.setClaim h c).memory = s.memory := rfl
@[simp] theorem State.setClaim_channels (s : State) (h : Handle) (c : Claim) : (s.setClaim h c).channels = s.channels := rfl
@[simp] theorem State.setClaim_reports (s : State) (h : Handle) (c : Claim) : (s.setClaim h c).reports = s.reports := rfl
@[simp] theorem State.setClaim_monitor (s : State) (h : Handle) (c : Claim) : (s.setClaim h c).monitor = s.monitor := rfl
@[simp] theorem State.setClaim_inputs (s : State) (h : Handle) (c : Claim) : (s.setClaim h c).inputs = s.inputs := rfl
@[simp] theorem State.setClaim_pending (s : State) (h : Handle) (c : Claim) : (s.setClaim h c).pending = s.pending := rfl

@[simp] theorem State.mapClaims_link (s : State) (f : Claim → Claim) : (s.mapClaims f).link = s.link := rfl
@[simp] theorem State.mapClaims_table (s : State) (f : Claim → Claim) : (s.mapClaims f).table = s.table := rfl
@[simp] theorem State.mapClaims_passes (s : State) (f : Claim → Claim) : (s.mapClaims f).passes = s.passes := rfl
@[simp] theorem State.mapClaims_memory (s : State) (f : Claim → Claim) : (s.mapClaims f).memory = s.memory := rfl
@[simp] theorem State.mapClaims_channels (s : State) (f : Claim → Claim) : (s.mapClaims f).channels = s.channels := rfl
@[simp] theorem State.mapClaims_reports (s : State) (f : Claim → Claim) : (s.mapClaims f).reports = s.reports := rfl
@[simp] theorem State.mapClaims_monitor (s : State) (f : Claim → Claim) : (s.mapClaims f).monitor = s.monitor := rfl
@[simp] theorem State.mapClaims_inputs (s : State) (f : Claim → Claim) : (s.mapClaims f).inputs = s.inputs := rfl
@[simp] theorem State.mapClaims_pending (s : State) (f : Claim → Claim) : (s.mapClaims f).pending = s.pending := rfl

@[simp] theorem State.setChannel_link (s : State) (st : Stage) (k : Channel) : (s.setChannel st k).link = s.link := rfl
@[simp] theorem State.setChannel_claims (s : State) (st : Stage) (k : Channel) : (s.setChannel st k).claims = s.claims := rfl
@[simp] theorem State.setChannel_table (s : State) (st : Stage) (k : Channel) : (s.setChannel st k).table = s.table := rfl
@[simp] theorem State.setChannel_passes (s : State) (st : Stage) (k : Channel) : (s.setChannel st k).passes = s.passes := rfl
@[simp] theorem State.setChannel_memory (s : State) (st : Stage) (k : Channel) : (s.setChannel st k).memory = s.memory := rfl
@[simp] theorem State.setChannel_reports (s : State) (st : Stage) (k : Channel) : (s.setChannel st k).reports = s.reports := rfl
@[simp] theorem State.setChannel_monitor (s : State) (st : Stage) (k : Channel) : (s.setChannel st k).monitor = s.monitor := rfl
@[simp] theorem State.setChannel_inputs (s : State) (st : Stage) (k : Channel) : (s.setChannel st k).inputs = s.inputs := rfl
@[simp] theorem State.setChannel_pending (s : State) (st : Stage) (k : Channel) : (s.setChannel st k).pending = s.pending := rfl

@[simp] theorem State.modChannel_link (s : State) (st : Stage) (f : Channel → Channel) : (s.modChannel st f).link = s.link := rfl
@[simp] theorem State.modChannel_claims (s : State) (st : Stage) (f : Channel → Channel) : (s.modChannel st f).claims = s.claims := rfl
@[simp] theorem State.modChannel_table (s : State) (st : Stage) (f : Channel → Channel) : (s.modChannel st f).table = s.table := rfl
@[simp] theorem State.modChannel_passes (s : State) (st : Stage) (f : Channel → Channel) : (s.modChannel st f).passes = s.passes := rfl
@[simp] theorem State.modChannel_memory (s : State) (st : Stage) (f : Channel → Channel) : (s.modChannel st f).memory = s.memory := rfl
@[simp] theorem State.modChannel_reports (s : State) (st : Stage) (f : Channel → Channel) : (s.modChannel st f).reports = s.reports := rfl
@[simp] theorem State.modChannel_monitor (s : State) (st : Stage) (f : Channel → Channel) : (s.modChannel st f).monitor = s.monitor := rfl
@[simp] theorem State.modChannel_inputs (s : State) (st : Stage) (f : Channel → Channel) : (s.modChannel st f).inputs = s.inputs := rfl
@[simp] theorem State.modChannel_pending (s : State) (st : Stage) (f : Channel → Channel) : (s.modChannel st f).pending = s.pending := rfl

@[simp] theorem State.setRecords_link (s : State) (h : Handle) (r : ClaimRecords) : (s.setRecords h r).link = s.link := rfl
@[simp] theorem State.setRecords_claims (s : State) (h : Handle) (r : ClaimRecords) : (s.setRecords h r).claims = s.claims := rfl
@[simp] theorem State.setRecords_table (s : State) (h : Handle) (r : ClaimRecords) : (s.setRecords h r).table = s.table := rfl
@[simp] theorem State.setRecords_passes (s : State) (h : Handle) (r : ClaimRecords) : (s.setRecords h r).passes = s.passes := rfl
@[simp] theorem State.setRecords_channels (s : State) (h : Handle) (r : ClaimRecords) : (s.setRecords h r).channels = s.channels := rfl
@[simp] theorem State.setRecords_reports (s : State) (h : Handle) (r : ClaimRecords) : (s.setRecords h r).reports = s.reports := rfl
@[simp] theorem State.setRecords_monitor (s : State) (h : Handle) (r : ClaimRecords) : (s.setRecords h r).monitor = s.monitor := rfl
@[simp] theorem State.setRecords_inputs (s : State) (h : Handle) (r : ClaimRecords) : (s.setRecords h r).inputs = s.inputs := rfl
@[simp] theorem State.setRecords_pending (s : State) (h : Handle) (r : ClaimRecords) : (s.setRecords h r).pending = s.pending := rfl

@[simp] theorem State.post_claims (s : State) (n : Notice) : (s.post n).claims = s.claims := rfl
@[simp] theorem State.post_table (s : State) (n : Notice) : (s.post n).table = s.table := rfl
@[simp] theorem State.post_passes (s : State) (n : Notice) : (s.post n).passes = s.passes := rfl
@[simp] theorem State.post_memory (s : State) (n : Notice) : (s.post n).memory = s.memory := rfl
@[simp] theorem State.post_channels (s : State) (n : Notice) : (s.post n).channels = s.channels := rfl
@[simp] theorem State.post_reports (s : State) (n : Notice) : (s.post n).reports = s.reports := rfl
@[simp] theorem State.post_monitor (s : State) (n : Notice) : (s.post n).monitor = s.monitor := rfl
@[simp] theorem State.post_inputs (s : State) (n : Notice) : (s.post n).inputs = s.inputs := rfl
@[simp] theorem State.post_pending (s : State) (n : Notice) : (s.post n).pending = s.pending := rfl

@[simp] theorem State.callForPass_link (s : State) : (s.callForPass).link = s.link := rfl
@[simp] theorem State.callForPass_claims (s : State) : (s.callForPass).claims = s.claims := rfl
@[simp] theorem State.callForPass_table (s : State) : (s.callForPass).table = s.table := rfl
@[simp] theorem State.callForPass_memory (s : State) : (s.callForPass).memory = s.memory := rfl
@[simp] theorem State.callForPass_channels (s : State) : (s.callForPass).channels = s.channels := rfl
@[simp] theorem State.callForPass_reports (s : State) : (s.callForPass).reports = s.reports := rfl
@[simp] theorem State.callForPass_monitor (s : State) : (s.callForPass).monitor = s.monitor := rfl
@[simp] theorem State.callForPass_inputs (s : State) : (s.callForPass).inputs = s.inputs := rfl
@[simp] theorem State.callForPass_pending (s : State) : (s.callForPass).pending = s.pending := rfl

@[simp] theorem State.voidPass_link (s : State) : (s.voidPass).link = s.link := by unfold State.voidPass; split <;> rfl
@[simp] theorem State.voidPass_claims (s : State) : (s.voidPass).claims = s.claims := by unfold State.voidPass; split <;> rfl
@[simp] theorem State.voidPass_table (s : State) : (s.voidPass).table = s.table := by unfold State.voidPass; split <;> rfl
@[simp] theorem State.voidPass_memory (s : State) : (s.voidPass).memory = s.memory := by unfold State.voidPass; split <;> rfl
@[simp] theorem State.voidPass_channels (s : State) : (s.voidPass).channels = s.channels := by unfold State.voidPass; split <;> rfl
@[simp] theorem State.voidPass_reports (s : State) : (s.voidPass).reports = s.reports := by unfold State.voidPass; split <;> rfl
@[simp] theorem State.voidPass_monitor (s : State) : (s.voidPass).monitor = s.monitor := by unfold State.voidPass; split <;> rfl
@[simp] theorem State.voidPass_inputs (s : State) : (s.voidPass).inputs = s.inputs := by unfold State.voidPass; split <;> rfl
@[simp] theorem State.voidPass_pending (s : State) : (s.voidPass).pending = s.pending := by unfold State.voidPass; split <;> rfl

@[simp] theorem State.countRepair_claims (s : State) (n : Notice) : (s.countRepair n).claims = s.claims := rfl
@[simp] theorem State.countRepair_table (s : State) (n : Notice) : (s.countRepair n).table = s.table := rfl
@[simp] theorem State.countRepair_passes (s : State) (n : Notice) : (s.countRepair n).passes = s.passes := rfl
@[simp] theorem State.countRepair_channels (s : State) (n : Notice) : (s.countRepair n).channels = s.channels := rfl
@[simp] theorem State.countRepair_reports (s : State) (n : Notice) : (s.countRepair n).reports = s.reports := rfl
@[simp] theorem State.countRepair_monitor (s : State) (n : Notice) : (s.countRepair n).monitor = s.monitor := rfl
@[simp] theorem State.countRepair_inputs (s : State) (n : Notice) : (s.countRepair n).inputs = s.inputs := rfl
@[simp] theorem State.countRepair_pending (s : State) (n : Notice) : (s.countRepair n).pending = s.pending := rfl

@[simp] theorem State.done_claims (s : State) (r : Request) (o : DoneOutcome) : (s.done r o).claims = s.claims := rfl
@[simp] theorem State.done_table (s : State) (r : Request) (o : DoneOutcome) : (s.done r o).table = s.table := rfl
@[simp] theorem State.done_passes (s : State) (r : Request) (o : DoneOutcome) : (s.done r o).passes = s.passes := rfl
@[simp] theorem State.done_memory (s : State) (r : Request) (o : DoneOutcome) : (s.done r o).memory = s.memory := rfl
@[simp] theorem State.done_channels (s : State) (r : Request) (o : DoneOutcome) : (s.done r o).channels = s.channels := rfl
@[simp] theorem State.done_reports (s : State) (r : Request) (o : DoneOutcome) : (s.done r o).reports = s.reports := rfl
@[simp] theorem State.done_monitor (s : State) (r : Request) (o : DoneOutcome) : (s.done r o).monitor = s.monitor := rfl
@[simp] theorem State.done_inputs (s : State) (r : Request) (o : DoneOutcome) : (s.done r o).inputs = s.inputs := rfl
@[simp] theorem State.done_pending (s : State) (r : Request) (o : DoneOutcome) : (s.done r o).pending = s.pending := rfl

@[simp] theorem State.setEntry_link (s : State) (depth : Nat) (e : StackEntry) : (s.setEntry depth e).link = s.link := rfl
@[simp] theorem State.setEntry_claims (s : State) (depth : Nat) (e : StackEntry) : (s.setEntry depth e).claims = s.claims := rfl
@[simp] theorem State.setEntry_passes (s : State) (depth : Nat) (e : StackEntry) : (s.setEntry depth e).passes = s.passes := rfl
@[simp] theorem State.setEntry_memory (s : State) (depth : Nat) (e : StackEntry) : (s.setEntry depth e).memory = s.memory := rfl
@[simp] theorem State.setEntry_channels (s : State) (depth : Nat) (e : StackEntry) : (s.setEntry depth e).channels = s.channels := rfl
@[simp] theorem State.setEntry_reports (s : State) (depth : Nat) (e : StackEntry) : (s.setEntry depth e).reports = s.reports := rfl
@[simp] theorem State.setEntry_monitor (s : State) (depth : Nat) (e : StackEntry) : (s.setEntry depth e).monitor = s.monitor := rfl
@[simp] theorem State.setEntry_inputs (s : State) (depth : Nat) (e : StackEntry) : (s.setEntry depth e).inputs = s.inputs := rfl
@[simp] theorem State.setEntry_pending (s : State) (depth : Nat) (e : StackEntry) : (s.setEntry depth e).pending = s.pending := rfl

@[simp] theorem State.setStanding_link (s : State) (st : Standing) : (s.setStanding st).link = s.link := rfl
@[simp] theorem State.setStanding_claims (s : State) (st : Standing) : (s.setStanding st).claims = s.claims := rfl
@[simp] theorem State.setStanding_passes (s : State) (st : Standing) : (s.setStanding st).passes = s.passes := rfl
@[simp] theorem State.setStanding_memory (s : State) (st : Standing) : (s.setStanding st).memory = s.memory := rfl
@[simp] theorem State.setStanding_channels (s : State) (st : Standing) : (s.setStanding st).channels = s.channels := rfl
@[simp] theorem State.setStanding_reports (s : State) (st : Standing) : (s.setStanding st).reports = s.reports := rfl
@[simp] theorem State.setStanding_monitor (s : State) (st : Standing) : (s.setStanding st).monitor = s.monitor := rfl
@[simp] theorem State.setStanding_inputs (s : State) (st : Standing) : (s.setStanding st).inputs = s.inputs := rfl
@[simp] theorem State.setStanding_pending (s : State) (st : Standing) : (s.setStanding st).pending = s.pending := rfl

@[simp] theorem State.report_link (s : State) (st : Stage) (h : Handle) (k : ReportKind) : (s.report st h k).link = s.link := rfl
@[simp] theorem State.report_claims (s : State) (st : Stage) (h : Handle) (k : ReportKind) : (s.report st h k).claims = s.claims := rfl
@[simp] theorem State.report_table (s : State) (st : Stage) (h : Handle) (k : ReportKind) : (s.report st h k).table = s.table := rfl
@[simp] theorem State.report_passes (s : State) (st : Stage) (h : Handle) (k : ReportKind) : (s.report st h k).passes = s.passes := rfl
@[simp] theorem State.report_memory (s : State) (st : Stage) (h : Handle) (k : ReportKind) : (s.report st h k).memory = s.memory := rfl
@[simp] theorem State.report_channels (s : State) (st : Stage) (h : Handle) (k : ReportKind) : (s.report st h k).channels = s.channels := rfl
@[simp] theorem State.report_monitor (s : State) (st : Stage) (h : Handle) (k : ReportKind) : (s.report st h k).monitor = s.monitor := rfl
@[simp] theorem State.report_inputs (s : State) (st : Stage) (h : Handle) (k : ReportKind) : (s.report st h k).inputs = s.inputs := rfl
@[simp] theorem State.report_pending (s : State) (st : Stage) (h : Handle) (k : ReportKind) : (s.report st h k).pending = s.pending := rfl

@[simp] theorem State.setStageFault_link (s : State) (st : Stage) (b : Bool) : (s.setStageFault st b).link = s.link := rfl
@[simp] theorem State.setStageFault_claims (s : State) (st : Stage) (b : Bool) : (s.setStageFault st b).claims = s.claims := rfl
@[simp] theorem State.setStageFault_table (s : State) (st : Stage) (b : Bool) : (s.setStageFault st b).table = s.table := rfl
@[simp] theorem State.setStageFault_passes (s : State) (st : Stage) (b : Bool) : (s.setStageFault st b).passes = s.passes := rfl
@[simp] theorem State.setStageFault_memory (s : State) (st : Stage) (b : Bool) : (s.setStageFault st b).memory = s.memory := rfl
@[simp] theorem State.setStageFault_channels (s : State) (st : Stage) (b : Bool) : (s.setStageFault st b).channels = s.channels := rfl
@[simp] theorem State.setStageFault_reports (s : State) (st : Stage) (b : Bool) : (s.setStageFault st b).reports = s.reports := rfl
@[simp] theorem State.setStageFault_monitor (s : State) (st : Stage) (b : Bool) : (s.setStageFault st b).monitor = s.monitor := rfl
@[simp] theorem State.setStageFault_pending (s : State) (st : Stage) (b : Bool) : (s.setStageFault st b).pending = s.pending := rfl

@[simp] theorem State.supplyChange_claims (s : State) (st : SupplyState) (r : Option SupplyReason) : (s.supplyChange st r).claims = s.claims := rfl
@[simp] theorem State.supplyChange_table (s : State) (st : SupplyState) (r : Option SupplyReason) : (s.supplyChange st r).table = s.table := rfl
@[simp] theorem State.supplyChange_passes (s : State) (st : SupplyState) (r : Option SupplyReason) : (s.supplyChange st r).passes = s.passes := rfl
@[simp] theorem State.supplyChange_memory (s : State) (st : SupplyState) (r : Option SupplyReason) : (s.supplyChange st r).memory = s.memory := rfl
@[simp] theorem State.supplyChange_channels (s : State) (st : SupplyState) (r : Option SupplyReason) : (s.supplyChange st r).channels = s.channels := rfl
@[simp] theorem State.supplyChange_reports (s : State) (st : SupplyState) (r : Option SupplyReason) : (s.supplyChange st r).reports = s.reports := rfl
@[simp] theorem State.supplyChange_inputs (s : State) (st : SupplyState) (r : Option SupplyReason) : (s.supplyChange st r).inputs = s.inputs := rfl
@[simp] theorem State.supplyChange_pending (s : State) (st : SupplyState) (r : Option SupplyReason) : (s.supplyChange st r).pending = s.pending := rfl

@[simp] theorem State.recordCapability_link (s : State) (f : SupplyFields) : (s.recordCapability f).link = s.link := rfl
@[simp] theorem State.recordCapability_claims (s : State) (f : SupplyFields) : (s.recordCapability f).claims = s.claims := rfl
@[simp] theorem State.recordCapability_table (s : State) (f : SupplyFields) : (s.recordCapability f).table = s.table := rfl
@[simp] theorem State.recordCapability_passes (s : State) (f : SupplyFields) : (s.recordCapability f).passes = s.passes := rfl
@[simp] theorem State.recordCapability_memory (s : State) (f : SupplyFields) : (s.recordCapability f).memory = s.memory := rfl
@[simp] theorem State.recordCapability_channels (s : State) (f : SupplyFields) : (s.recordCapability f).channels = s.channels := rfl
@[simp] theorem State.recordCapability_reports (s : State) (f : SupplyFields) : (s.recordCapability f).reports = s.reports := rfl
@[simp] theorem State.recordCapability_inputs (s : State) (f : SupplyFields) : (s.recordCapability f).inputs = s.inputs := rfl
@[simp] theorem State.recordCapability_pending (s : State) (f : SupplyFields) : (s.recordCapability f).pending = s.pending := rfl

@[simp] theorem State.restartTimeout_link (s : State) : (s.restartTimeout).link = s.link := rfl
@[simp] theorem State.restartTimeout_claims (s : State) : (s.restartTimeout).claims = s.claims := rfl
@[simp] theorem State.restartTimeout_table (s : State) : (s.restartTimeout).table = s.table := rfl
@[simp] theorem State.restartTimeout_passes (s : State) : (s.restartTimeout).passes = s.passes := rfl
@[simp] theorem State.restartTimeout_memory (s : State) : (s.restartTimeout).memory = s.memory := rfl
@[simp] theorem State.restartTimeout_channels (s : State) : (s.restartTimeout).channels = s.channels := rfl
@[simp] theorem State.restartTimeout_reports (s : State) : (s.restartTimeout).reports = s.reports := rfl
@[simp] theorem State.restartTimeout_inputs (s : State) : (s.restartTimeout).inputs = s.inputs := rfl
@[simp] theorem State.restartTimeout_pending (s : State) : (s.restartTimeout).pending = s.pending := rfl

@[simp] theorem State.badSupplyFrame_link (s : State) : (s.badSupplyFrame).link = s.link := rfl
@[simp] theorem State.badSupplyFrame_claims (s : State) : (s.badSupplyFrame).claims = s.claims := rfl
@[simp] theorem State.badSupplyFrame_table (s : State) : (s.badSupplyFrame).table = s.table := rfl
@[simp] theorem State.badSupplyFrame_passes (s : State) : (s.badSupplyFrame).passes = s.passes := rfl
@[simp] theorem State.badSupplyFrame_memory (s : State) : (s.badSupplyFrame).memory = s.memory := rfl
@[simp] theorem State.badSupplyFrame_channels (s : State) : (s.badSupplyFrame).channels = s.channels := rfl
@[simp] theorem State.badSupplyFrame_reports (s : State) : (s.badSupplyFrame).reports = s.reports := rfl
@[simp] theorem State.badSupplyFrame_inputs (s : State) : (s.badSupplyFrame).inputs = s.inputs := rfl
@[simp] theorem State.badSupplyFrame_pending (s : State) : (s.badSupplyFrame).pending = s.pending := rfl

@[simp] theorem State.setSafeOff_link (s : State) (b : Bool) : (s.setSafeOff b).link = s.link := rfl
@[simp] theorem State.setSafeOff_claims (s : State) (b : Bool) : (s.setSafeOff b).claims = s.claims := rfl
@[simp] theorem State.setSafeOff_passes (s : State) (b : Bool) : (s.setSafeOff b).passes = s.passes := rfl
@[simp] theorem State.setSafeOff_memory (s : State) (b : Bool) : (s.setSafeOff b).memory = s.memory := rfl
@[simp] theorem State.setSafeOff_channels (s : State) (b : Bool) : (s.setSafeOff b).channels = s.channels := rfl
@[simp] theorem State.setSafeOff_reports (s : State) (b : Bool) : (s.setSafeOff b).reports = s.reports := rfl
@[simp] theorem State.setSafeOff_monitor (s : State) (b : Bool) : (s.setSafeOff b).monitor = s.monitor := rfl
@[simp] theorem State.setSafeOff_pending (s : State) (b : Bool) : (s.setSafeOff b).pending = s.pending := rfl

@[simp] theorem State.refuseEntries_claims (s : State) (k : Nat) : (s.refuseEntries k).claims = s.claims := rfl
@[simp] theorem State.refuseEntries_table (s : State) (k : Nat) : (s.refuseEntries k).table = s.table := rfl
@[simp] theorem State.refuseEntries_passes (s : State) (k : Nat) : (s.refuseEntries k).passes = s.passes := rfl
@[simp] theorem State.refuseEntries_memory (s : State) (k : Nat) : (s.refuseEntries k).memory = s.memory := rfl
@[simp] theorem State.refuseEntries_channels (s : State) (k : Nat) : (s.refuseEntries k).channels = s.channels := rfl
@[simp] theorem State.refuseEntries_reports (s : State) (k : Nat) : (s.refuseEntries k).reports = s.reports := rfl
@[simp] theorem State.refuseEntries_monitor (s : State) (k : Nat) : (s.refuseEntries k).monitor = s.monitor := rfl
@[simp] theorem State.refuseEntries_inputs (s : State) (k : Nat) : (s.refuseEntries k).inputs = s.inputs := rfl
@[simp] theorem State.refuseEntries_pending (s : State) (k : Nat) : (s.refuseEntries k).pending = s.pending := rfl

@[simp] theorem State.portReady_claims (s : State) : (s.portReady).claims = s.claims := rfl
@[simp] theorem State.portReady_table (s : State) : (s.portReady).table = s.table := rfl
@[simp] theorem State.portReady_passes (s : State) : (s.portReady).passes = s.passes := rfl
@[simp] theorem State.portReady_memory (s : State) : (s.portReady).memory = s.memory := rfl
@[simp] theorem State.portReady_channels (s : State) : (s.portReady).channels = s.channels := rfl
@[simp] theorem State.portReady_reports (s : State) : (s.portReady).reports = s.reports := rfl
@[simp] theorem State.portReady_monitor (s : State) : (s.portReady).monitor = s.monitor := rfl
@[simp] theorem State.portReady_inputs (s : State) : (s.portReady).inputs = s.inputs := rfl
@[simp] theorem State.portReady_pending (s : State) : (s.portReady).pending = s.pending := rfl

@[simp] theorem State.countHeaderError_claims (s : State) : (s.countHeaderError).claims = s.claims := rfl
@[simp] theorem State.countHeaderError_table (s : State) : (s.countHeaderError).table = s.table := rfl
@[simp] theorem State.countHeaderError_passes (s : State) : (s.countHeaderError).passes = s.passes := rfl
@[simp] theorem State.countHeaderError_memory (s : State) : (s.countHeaderError).memory = s.memory := rfl
@[simp] theorem State.countHeaderError_channels (s : State) : (s.countHeaderError).channels = s.channels := rfl
@[simp] theorem State.countHeaderError_reports (s : State) : (s.countHeaderError).reports = s.reports := rfl
@[simp] theorem State.countHeaderError_monitor (s : State) : (s.countHeaderError).monitor = s.monitor := rfl
@[simp] theorem State.countHeaderError_inputs (s : State) : (s.countHeaderError).inputs = s.inputs := rfl
@[simp] theorem State.countHeaderError_pending (s : State) : (s.countHeaderError).pending = s.pending := rfl

@[simp] theorem State.countFrameError_claims (s : State) : (s.countFrameError).claims = s.claims := rfl
@[simp] theorem State.countFrameError_table (s : State) : (s.countFrameError).table = s.table := rfl
@[simp] theorem State.countFrameError_passes (s : State) : (s.countFrameError).passes = s.passes := rfl
@[simp] theorem State.countFrameError_memory (s : State) : (s.countFrameError).memory = s.memory := rfl
@[simp] theorem State.countFrameError_channels (s : State) : (s.countFrameError).channels = s.channels := rfl
@[simp] theorem State.countFrameError_reports (s : State) : (s.countFrameError).reports = s.reports := rfl
@[simp] theorem State.countFrameError_monitor (s : State) : (s.countFrameError).monitor = s.monitor := rfl
@[simp] theorem State.countFrameError_inputs (s : State) : (s.countFrameError).inputs = s.inputs := rfl
@[simp] theorem State.countFrameError_pending (s : State) : (s.countFrameError).pending = s.pending := rfl

@[simp] theorem State.countFormatError_claims (s : State) : (s.countFormatError).claims = s.claims := rfl
@[simp] theorem State.countFormatError_table (s : State) : (s.countFormatError).table = s.table := rfl
@[simp] theorem State.countFormatError_passes (s : State) : (s.countFormatError).passes = s.passes := rfl
@[simp] theorem State.countFormatError_memory (s : State) : (s.countFormatError).memory = s.memory := rfl
@[simp] theorem State.countFormatError_channels (s : State) : (s.countFormatError).channels = s.channels := rfl
@[simp] theorem State.countFormatError_reports (s : State) : (s.countFormatError).reports = s.reports := rfl
@[simp] theorem State.countFormatError_monitor (s : State) : (s.countFormatError).monitor = s.monitor := rfl
@[simp] theorem State.countFormatError_inputs (s : State) : (s.countFormatError).inputs = s.inputs := rfl
@[simp] theorem State.countFormatError_pending (s : State) : (s.countFormatError).pending = s.pending := rfl

@[simp] theorem State.expectReply_claims (s : State) (e : Bool) : (s.expectReply e).claims = s.claims := rfl
@[simp] theorem State.expectReply_table (s : State) (e : Bool) : (s.expectReply e).table = s.table := rfl
@[simp] theorem State.expectReply_passes (s : State) (e : Bool) : (s.expectReply e).passes = s.passes := rfl
@[simp] theorem State.expectReply_memory (s : State) (e : Bool) : (s.expectReply e).memory = s.memory := rfl
@[simp] theorem State.expectReply_channels (s : State) (e : Bool) : (s.expectReply e).channels = s.channels := rfl
@[simp] theorem State.expectReply_reports (s : State) (e : Bool) : (s.expectReply e).reports = s.reports := rfl
@[simp] theorem State.expectReply_monitor (s : State) (e : Bool) : (s.expectReply e).monitor = s.monitor := rfl
@[simp] theorem State.expectReply_inputs (s : State) (e : Bool) : (s.expectReply e).inputs = s.inputs := rfl
@[simp] theorem State.expectReply_pending (s : State) (e : Bool) : (s.expectReply e).pending = s.pending := rfl

@[simp] theorem State.answer_claims (s : State) (h : Header) (st : Status) (p : List Octet) : (s.answer h st p).claims = s.claims := rfl
@[simp] theorem State.answer_table (s : State) (h : Header) (st : Status) (p : List Octet) : (s.answer h st p).table = s.table := rfl
@[simp] theorem State.answer_passes (s : State) (h : Header) (st : Status) (p : List Octet) : (s.answer h st p).passes = s.passes := rfl
@[simp] theorem State.answer_memory (s : State) (h : Header) (st : Status) (p : List Octet) : (s.answer h st p).memory = s.memory := rfl
@[simp] theorem State.answer_channels (s : State) (h : Header) (st : Status) (p : List Octet) : (s.answer h st p).channels = s.channels := rfl
@[simp] theorem State.answer_reports (s : State) (h : Header) (st : Status) (p : List Octet) : (s.answer h st p).reports = s.reports := rfl
@[simp] theorem State.answer_monitor (s : State) (h : Header) (st : Status) (p : List Octet) : (s.answer h st p).monitor = s.monitor := rfl
@[simp] theorem State.answer_inputs (s : State) (h : Header) (st : Status) (p : List Octet) : (s.answer h st p).inputs = s.inputs := rfl
@[simp] theorem State.answer_pending (s : State) (h : Header) (st : Status) (p : List Octet) : (s.answer h st p).pending = s.pending := rfl

@[simp] theorem State.pushEntry_link (s : State) (e : Envelope) : (s.pushEntry e).link = s.link := rfl
@[simp] theorem State.pushEntry_claims (s : State) (e : Envelope) : (s.pushEntry e).claims = s.claims := rfl
@[simp] theorem State.pushEntry_passes (s : State) (e : Envelope) : (s.pushEntry e).passes = s.passes := rfl
@[simp] theorem State.pushEntry_channels (s : State) (e : Envelope) : (s.pushEntry e).channels = s.channels := rfl
@[simp] theorem State.pushEntry_reports (s : State) (e : Envelope) : (s.pushEntry e).reports = s.reports := rfl
@[simp] theorem State.pushEntry_monitor (s : State) (e : Envelope) : (s.pushEntry e).monitor = s.monitor := rfl
@[simp] theorem State.pushEntry_inputs (s : State) (e : Envelope) : (s.pushEntry e).inputs = s.inputs := rfl
@[simp] theorem State.pushEntry_pending (s : State) (e : Envelope) : (s.pushEntry e).pending = s.pending := rfl

@[simp] theorem State.popEntry_link (s : State) : (s.popEntry).link = s.link := rfl
@[simp] theorem State.popEntry_claims (s : State) : (s.popEntry).claims = s.claims := rfl
@[simp] theorem State.popEntry_passes (s : State) : (s.popEntry).passes = s.passes := rfl
@[simp] theorem State.popEntry_channels (s : State) : (s.popEntry).channels = s.channels := rfl
@[simp] theorem State.popEntry_reports (s : State) : (s.popEntry).reports = s.reports := rfl
@[simp] theorem State.popEntry_monitor (s : State) : (s.popEntry).monitor = s.monitor := rfl
@[simp] theorem State.popEntry_inputs (s : State) : (s.popEntry).inputs = s.inputs := rfl
@[simp] theorem State.popEntry_pending (s : State) : (s.popEntry).pending = s.pending := rfl

@[simp] theorem State.configureMonitor_claims (s : State) (f : ConfigureFields) : (s.configureMonitor f).claims = s.claims := by unfold State.configureMonitor; dsimp only; split <;> rfl
@[simp] theorem State.configureMonitor_table (s : State) (f : ConfigureFields) : (s.configureMonitor f).table = s.table := by unfold State.configureMonitor; dsimp only; split <;> rfl
@[simp] theorem State.configureMonitor_passes (s : State) (f : ConfigureFields) : (s.configureMonitor f).passes = s.passes := by unfold State.configureMonitor; dsimp only; split <;> rfl
@[simp] theorem State.configureMonitor_memory (s : State) (f : ConfigureFields) : (s.configureMonitor f).memory = s.memory := by unfold State.configureMonitor; dsimp only; split <;> rfl
@[simp] theorem State.configureMonitor_channels (s : State) (f : ConfigureFields) : (s.configureMonitor f).channels = s.channels := by unfold State.configureMonitor; dsimp only; split <;> rfl
@[simp] theorem State.configureMonitor_reports (s : State) (f : ConfigureFields) : (s.configureMonitor f).reports = s.reports := by unfold State.configureMonitor; dsimp only; split <;> rfl
@[simp] theorem State.configureMonitor_inputs (s : State) (f : ConfigureFields) : (s.configureMonitor f).inputs = s.inputs := by unfold State.configureMonitor; dsimp only; split <;> rfl
@[simp] theorem State.configureMonitor_pending (s : State) (f : ConfigureFields) : (s.configureMonitor f).pending = s.pending := by unfold State.configureMonitor; dsimp only; split <;> rfl

@[simp] theorem State.configureTable_link (s : State) (f : ConfigureFields) : (s.configureTable f).link = s.link := rfl
@[simp] theorem State.configureTable_claims (s : State) (f : ConfigureFields) : (s.configureTable f).claims = s.claims := rfl
@[simp] theorem State.configureTable_passes (s : State) (f : ConfigureFields) : (s.configureTable f).passes = s.passes := rfl
@[simp] theorem State.configureTable_channels (s : State) (f : ConfigureFields) : (s.configureTable f).channels = s.channels := rfl
@[simp] theorem State.configureTable_reports (s : State) (f : ConfigureFields) : (s.configureTable f).reports = s.reports := rfl
@[simp] theorem State.configureTable_monitor (s : State) (f : ConfigureFields) : (s.configureTable f).monitor = s.monitor := rfl
@[simp] theorem State.configureTable_inputs (s : State) (f : ConfigureFields) : (s.configureTable f).inputs = s.inputs := rfl
@[simp] theorem State.configureTable_pending (s : State) (f : ConfigureFields) : (s.configureTable f).pending = s.pending := rfl

@[simp] theorem State.rewriteBase_link (s : State) (h : Handle) (r : BaseRecord) : (s.rewriteBase h r).link = s.link := rfl
@[simp] theorem State.rewriteBase_passes (s : State) (h : Handle) (r : BaseRecord) : (s.rewriteBase h r).passes = s.passes := rfl
@[simp] theorem State.rewriteBase_channels (s : State) (h : Handle) (r : BaseRecord) : (s.rewriteBase h r).channels = s.channels := rfl
@[simp] theorem State.rewriteBase_reports (s : State) (h : Handle) (r : BaseRecord) : (s.rewriteBase h r).reports = s.reports := rfl
@[simp] theorem State.rewriteBase_monitor (s : State) (h : Handle) (r : BaseRecord) : (s.rewriteBase h r).monitor = s.monitor := rfl
@[simp] theorem State.rewriteBase_inputs (s : State) (h : Handle) (r : BaseRecord) : (s.rewriteBase h r).inputs = s.inputs := rfl
@[simp] theorem State.rewriteBase_pending (s : State) (h : Handle) (r : BaseRecord) : (s.rewriteBase h r).pending = s.pending := rfl

@[simp] theorem State.setEstimate_link (s : State) (h : Handle) (e : Nat) (sd : DrawSide) : (s.setEstimate h e sd).link = s.link := by unfold State.setEstimate; dsimp only; split <;> rfl
@[simp] theorem State.setEstimate_table (s : State) (h : Handle) (e : Nat) (sd : DrawSide) : (s.setEstimate h e sd).table = s.table := by unfold State.setEstimate; dsimp only; split <;> rfl
@[simp] theorem State.setEstimate_memory (s : State) (h : Handle) (e : Nat) (sd : DrawSide) : (s.setEstimate h e sd).memory = s.memory := by unfold State.setEstimate; dsimp only; split <;> rfl
@[simp] theorem State.setEstimate_channels (s : State) (h : Handle) (e : Nat) (sd : DrawSide) : (s.setEstimate h e sd).channels = s.channels := by unfold State.setEstimate; dsimp only; split <;> rfl
@[simp] theorem State.setEstimate_reports (s : State) (h : Handle) (e : Nat) (sd : DrawSide) : (s.setEstimate h e sd).reports = s.reports := by unfold State.setEstimate; dsimp only; split <;> rfl
@[simp] theorem State.setEstimate_monitor (s : State) (h : Handle) (e : Nat) (sd : DrawSide) : (s.setEstimate h e sd).monitor = s.monitor := by unfold State.setEstimate; dsimp only; split <;> rfl
@[simp] theorem State.setEstimate_inputs (s : State) (h : Handle) (e : Nat) (sd : DrawSide) : (s.setEstimate h e sd).inputs = s.inputs := by unfold State.setEstimate; dsimp only; split <;> rfl
@[simp] theorem State.setEstimate_pending (s : State) (h : Handle) (e : Nat) (sd : DrawSide) : (s.setEstimate h e sd).pending = s.pending := by unfold State.setEstimate; dsimp only; split <;> rfl

/-! ### The port after a notice, the pass flags after a call, and counters -/

@[simp] theorem LinkPort.post_station (l : LinkPort) (n : Notice) : (l.post n).station = l.station := by
  unfold LinkPort.post; split <;> rfl
@[simp] theorem LinkPort.post_urgent (l : LinkPort) (n : Notice) : (l.post n).urgent = l.urgent := by
  unfold LinkPort.post; split <;> rfl
@[simp] theorem LinkPort.post_normal (l : LinkPort) (n : Notice) : (l.post n).normal = l.normal := by
  unfold LinkPort.post; split <;> rfl
@[simp] theorem LinkPort.post_headerErrors (l : LinkPort) (n : Notice) : (l.post n).headerErrors = l.headerErrors := by
  unfold LinkPort.post; split <;> rfl
@[simp] theorem LinkPort.post_frameErrors (l : LinkPort) (n : Notice) : (l.post n).frameErrors = l.frameErrors := by
  unfold LinkPort.post; split <;> rfl
@[simp] theorem LinkPort.post_formatErrors (l : LinkPort) (n : Notice) : (l.post n).formatErrors = l.formatErrors := by
  unfold LinkPort.post; split <;> rfl
@[simp] theorem LinkPort.post_dropped (l : LinkPort) (n : Notice) : (l.post n).dropped = l.dropped := by
  unfold LinkPort.post; split <;> rfl
@[simp] theorem LinkPort.post_cycleRefusals (l : LinkPort) (n : Notice) : (l.post n).cycleRefusals = l.cycleRefusals := by
  unfold LinkPort.post; split <;> rfl
@[simp] theorem LinkPort.post_replyExpected (l : LinkPort) (n : Notice) : (l.post n).replyExpected = l.replyExpected := by
  unfold LinkPort.post; split <;> rfl
@[simp] theorem LinkPort.post_driverOn (l : LinkPort) (n : Notice) : (l.post n).driverOn = l.driverOn := by
  unfold LinkPort.post; split <;> rfl
@[simp] theorem LinkPort.post_sent (l : LinkPort) (n : Notice) : (l.post n).sent = l.sent := by
  unfold LinkPort.post; split <;> rfl

/-- A notice never takes the FIFO beyond its places. -/
theorem LinkPort.post_length (l : LinkPort) (n : Notice) (hl : l.notices.length ≤ 16) : (l.post n).notices.length ≤ 16 := by
  unfold LinkPort.post
  split
  · simp_all [Config.noticePlaces]
  · exact hl

@[simp] theorem State.post_link (s : State) (n : Notice) : (s.post n).link = s.link.post n := rfl
@[simp] theorem State.callForPass_passes (s : State) : s.callForPass.passes = s.passes.call := rfl

@[simp] theorem PassBook.call_inFlight (b : PassBook) : b.call.inFlight = b.inFlight := by
  unfold PassBook.call; split <;> rfl
@[simp] theorem PassBook.call_void (b : PassBook) : b.call.void = b.void := by
  unfold PassBook.call; split <;> rfl
@[simp] theorem PassBook.call_driveSlack (b : PassBook) : b.call.driveSlack = b.driveSlack := by
  unfold PassBook.call; split <;> rfl
@[simp] theorem PassBook.call_returnSlack (b : PassBook) : b.call.returnSlack = b.returnSlack := by
  unfold PassBook.call; split <;> rfl

/-- A second call changes nothing more. -/
@[simp] theorem PassBook.call_call (b : PassBook) : b.call.call = b.call := by
  unfold PassBook.call
  split <;> simp_all

/-- A saturating counter stays within its maximum. -/
theorem satInc_le (max n : Nat) (hn : n ≤ max) : satInc max n ≤ max := by
  unfold satInc
  split <;> omega

/-- So it does after several increments. -/
theorem satAdd_le (max n k : Nat) (hn : n ≤ max) : satAdd max n k ≤ max := by
  unfold satAdd
  split
  · omega
  · exact Nat.max_le.2 ⟨hn, Nat.le_refl _⟩

/-- Several increments are as many single ones. -/
theorem satAdd_succ (max n k : Nat) : satAdd max n (k + 1) = satInc max (satAdd max n k) := by
  unfold satAdd satInc
  have : Nat.max n max = Max.max n max := rfl
  split <;> split <;> (try split) <;> omega

end Sys2Proof.Machine
end

