-- ==== Sys2Proof/Laws/Ops.lean ====
section
/-! SUPPORT. One lemma per shared operation: which parts of the state it leaves, what a checked read can find, and how the
channels of a claim read after a change of them. -/

namespace Sys2Proof.Machine

/-! ### The channels of a claim's stages -/

@[simp] theorem State.onStages_link (s : State) (m : Option StageMap) (f : Channel → Channel) : (s.onStages m f).link = s.link := by
  cases m with
  | none => rfl
  | some m => cases hp : m.partner <;> simp [State.onStages, StageMap.stages, hp]
@[simp] theorem State.onStages_claims (s : State) (m : Option StageMap) (f : Channel → Channel) : (s.onStages m f).claims = s.claims := by
  cases m with
  | none => rfl
  | some m => cases hp : m.partner <;> simp [State.onStages, StageMap.stages, hp]
@[simp] theorem State.onStages_table (s : State) (m : Option StageMap) (f : Channel → Channel) : (s.onStages m f).table = s.table := by
  cases m with
  | none => rfl
  | some m => cases hp : m.partner <;> simp [State.onStages, StageMap.stages, hp]
@[simp] theorem State.onStages_passes (s : State) (m : Option StageMap) (f : Channel → Channel) : (s.onStages m f).passes = s.passes := by
  cases m with
  | none => rfl
  | some m => cases hp : m.partner <;> simp [State.onStages, StageMap.stages, hp]
@[simp] theorem State.onStages_memory (s : State) (m : Option StageMap) (f : Channel → Channel) : (s.onStages m f).memory = s.memory := by
  cases m with
  | none => rfl
  | some m => cases hp : m.partner <;> simp [State.onStages, StageMap.stages, hp]
@[simp] theorem State.onStages_reports (s : State) (m : Option StageMap) (f : Channel → Channel) : (s.onStages m f).reports = s.reports := by
  cases m with
  | none => rfl
  | some m => cases hp : m.partner <;> simp [State.onStages, StageMap.stages, hp]
@[simp] theorem State.onStages_monitor (s : State) (m : Option StageMap) (f : Channel → Channel) : (s.onStages m f).monitor = s.monitor := by
  cases m with
  | none => rfl
  | some m => cases hp : m.partner <;> simp [State.onStages, StageMap.stages, hp]
@[simp] theorem State.onStages_inputs (s : State) (m : Option StageMap) (f : Channel → Channel) : (s.onStages m f).inputs = s.inputs := by
  cases m with
  | none => rfl
  | some m => cases hp : m.partner <;> simp [State.onStages, StageMap.stages, hp]
@[simp] theorem State.onStages_pending (s : State) (m : Option StageMap) (f : Channel → Channel) : (s.onStages m f).pending = s.pending := by
  cases m with
  | none => rfl
  | some m => cases hp : m.partner <;> simp [State.onStages, StageMap.stages, hp]

/-- A change that done twice is the same as done once reaches each channel of the stage map, and no other. -/
theorem State.channel_onStages (s : State) (m : StageMap) (f : Channel → Channel) (hf : ∀ k, f (f k) = f k) (st : Stage) :
    (s.onStages (some m) f).channel st = if st ∈ m.stages then f (s.channel st) else s.channel st := by
  cases hp : m.partner with
  | none => by_cases h : st = m.primary <;> simp [State.onStages, StageMap.stages, hp, State.channel_modChannel, h]
  | some p =>
    by_cases h : st = m.primary <;> by_cases h' : st = p <;> by_cases h'' : p = m.primary <;>
      simp_all [State.onStages, StageMap.stages, State.channel_modChannel]

@[simp] theorem State.onStages_none (s : State) (f : Channel → Channel) : s.onStages none f = s := rfl

/-! ### Checked reads of record memory -/

/-- A checked read of a base part leaves the state as it is, or repairs the part, counts the repair and posts its notice. -/
theorem State.readBase_cases (s : State) (h : Handle) :
    (s.readBase h).2 = s ∨ ∃ p v, (s.recordsOf h).base = some p ∧ p.outcome = .repaired v ∧ (s.readBase h).1 = some v
      ∧ (s.readBase h).2
        = (s.setRecords h { s.recordsOf h with base := some p.repair }).countRepair (.repairedBase h) := by
  unfold State.readBase
  split
  · exact .inl rfl
  · rename_i p hp
    split
    · exact .inl rfl
    · exact .inr ⟨p, _, hp, ‹_›, rfl, rfl⟩
    · exact .inl rfl

/-- A checked read of an optional part, likewise. -/
theorem State.readOptional_cases (s : State) (h : Handle) :
    (s.readOptional h).2 = s ∨ ∃ p v, (s.recordsOf h).optional = some p ∧ p.outcome = .repaired v
      ∧ (s.readOptional h).1 = some v
      ∧ (s.readOptional h).2
        = (s.setRecords h { s.recordsOf h with optional := some p.repair }).countRepair (.repairedOptional h) := by
  unfold State.readOptional
  split
  · exact .inl rfl
  · rename_i p hp
    split
    · exact .inl rfl
    · exact .inr ⟨p, _, hp, ‹_›, rfl, rfl⟩
    · exact .inl rfl

/-- A checked read of an envelope leaves the state as it is, repairs the envelope, or marks it LOST. -/
theorem State.readEnvelope_cases (s : State) (depth : Nat) :
    (s.readEnvelope depth).2 = s
      ∨ ∃ e, s.table.stack[depth - 1]? = some e ∧ e.condition = .intact
        ∧ ((s.readEnvelope depth).2
            = (s.setEntry depth { e with part := e.part.repair }).countRepair (.repairedEnvelope depth)
          ∨ (s.readEnvelope depth).2
            = (s.setEntry depth { e with condition := .lost }).post (.envelopeLost depth)) := by
  unfold State.readEnvelope
  split
  · exact .inl rfl
  · rename_i e he
    split
    · exact .inl rfl
    · rename_i hc
      split
      · exact .inl rfl
      · exact .inr ⟨e, he, hc, .inl rfl⟩
      · exact .inr ⟨e, he, hc, .inr rfl⟩

@[simp] theorem State.readBase_claims (s : State) (h : Handle) : ((s.readBase h).2).claims = s.claims := by
  rcases s.readBase_cases h with e | ⟨_, _, _, _, _, e⟩ <;> simp [e]
@[simp] theorem State.readBase_table (s : State) (h : Handle) : ((s.readBase h).2).table = s.table := by
  rcases s.readBase_cases h with e | ⟨_, _, _, _, _, e⟩ <;> simp [e]
@[simp] theorem State.readBase_passes (s : State) (h : Handle) : ((s.readBase h).2).passes = s.passes := by
  rcases s.readBase_cases h with e | ⟨_, _, _, _, _, e⟩ <;> simp [e]
@[simp] theorem State.readBase_channels (s : State) (h : Handle) : ((s.readBase h).2).channels = s.channels := by
  rcases s.readBase_cases h with e | ⟨_, _, _, _, _, e⟩ <;> simp [e]
@[simp] theorem State.readBase_reports (s : State) (h : Handle) : ((s.readBase h).2).reports = s.reports := by
  rcases s.readBase_cases h with e | ⟨_, _, _, _, _, e⟩ <;> simp [e]
@[simp] theorem State.readBase_monitor (s : State) (h : Handle) : ((s.readBase h).2).monitor = s.monitor := by
  rcases s.readBase_cases h with e | ⟨_, _, _, _, _, e⟩ <;> simp [e]
@[simp] theorem State.readBase_inputs (s : State) (h : Handle) : ((s.readBase h).2).inputs = s.inputs := by
  rcases s.readBase_cases h with e | ⟨_, _, _, _, _, e⟩ <;> simp [e]
@[simp] theorem State.readBase_pending (s : State) (h : Handle) : ((s.readBase h).2).pending = s.pending := by
  rcases s.readBase_cases h with e | ⟨_, _, _, _, _, e⟩ <;> simp [e]

@[simp] theorem State.readOptional_claims (s : State) (h : Handle) : ((s.readOptional h).2).claims = s.claims := by
  rcases s.readOptional_cases h with e | ⟨_, _, _, _, _, e⟩ <;> simp [e]
@[simp] theorem State.readOptional_table (s : State) (h : Handle) : ((s.readOptional h).2).table = s.table := by
  rcases s.readOptional_cases h with e | ⟨_, _, _, _, _, e⟩ <;> simp [e]
@[simp] theorem State.readOptional_passes (s : State) (h : Handle) : ((s.readOptional h).2).passes = s.passes := by
  rcases s.readOptional_cases h with e | ⟨_, _, _, _, _, e⟩ <;> simp [e]
@[simp] theorem State.readOptional_channels (s : State) (h : Handle) : ((s.readOptional h).2).channels = s.channels := by
  rcases s.readOptional_cases h with e | ⟨_, _, _, _, _, e⟩ <;> simp [e]
@[simp] theorem State.readOptional_reports (s : State) (h : Handle) : ((s.readOptional h).2).reports = s.reports := by
  rcases s.readOptional_cases h with e | ⟨_, _, _, _, _, e⟩ <;> simp [e]
@[simp] theorem State.readOptional_monitor (s : State) (h : Handle) : ((s.readOptional h).2).monitor = s.monitor := by
  rcases s.readOptional_cases h with e | ⟨_, _, _, _, _, e⟩ <;> simp [e]
@[simp] theorem State.readOptional_inputs (s : State) (h : Handle) : ((s.readOptional h).2).inputs = s.inputs := by
  rcases s.readOptional_cases h with e | ⟨_, _, _, _, _, e⟩ <;> simp [e]
@[simp] theorem State.readOptional_pending (s : State) (h : Handle) : ((s.readOptional h).2).pending = s.pending := by
  rcases s.readOptional_cases h with e | ⟨_, _, _, _, _, e⟩ <;> simp [e]

@[simp] theorem State.readEnvelope_claims (s : State) (depth : Nat) : ((s.readEnvelope depth).2).claims = s.claims := by
  rcases s.readEnvelope_cases depth with e | ⟨_, _, _, e | e⟩ <;> simp [e]
@[simp] theorem State.readEnvelope_passes (s : State) (depth : Nat) : ((s.readEnvelope depth).2).passes = s.passes := by
  rcases s.readEnvelope_cases depth with e | ⟨_, _, _, e | e⟩ <;> simp [e]
@[simp] theorem State.readEnvelope_channels (s : State) (depth : Nat) : ((s.readEnvelope depth).2).channels = s.channels := by
  rcases s.readEnvelope_cases depth with e | ⟨_, _, _, e | e⟩ <;> simp [e]
@[simp] theorem State.readEnvelope_reports (s : State) (depth : Nat) : ((s.readEnvelope depth).2).reports = s.reports := by
  rcases s.readEnvelope_cases depth with e | ⟨_, _, _, e | e⟩ <;> simp [e]
@[simp] theorem State.readEnvelope_monitor (s : State) (depth : Nat) : ((s.readEnvelope depth).2).monitor = s.monitor := by
  rcases s.readEnvelope_cases depth with e | ⟨_, _, _, e | e⟩ <;> simp [e]
@[simp] theorem State.readEnvelope_inputs (s : State) (depth : Nat) : ((s.readEnvelope depth).2).inputs = s.inputs := by
  rcases s.readEnvelope_cases depth with e | ⟨_, _, _, e | e⟩ <;> simp [e]
@[simp] theorem State.readEnvelope_pending (s : State) (depth : Nat) : ((s.readEnvelope depth).2).pending = s.pending := by
  rcases s.readEnvelope_cases depth with e | ⟨_, _, _, e | e⟩ <;> simp [e]

/-- A read of an envelope leaves the depth of the stack. -/
@[simp] theorem State.readEnvelope_depth (s : State) (depth : Nat) :
    (s.readEnvelope depth).2.table.stack.length = s.table.stack.length := by
  rcases s.readEnvelope_cases depth with e | ⟨_, _, _, e | e⟩ <;> simp [e, State.setEntry]

/-- A read of an envelope leaves all of the table but the stack. -/
theorem State.readEnvelope_table (s : State) (depth : Nat) :
    (s.readEnvelope depth).2.table = { s.table with stack := (s.readEnvelope depth).2.table.stack } := by
  rcases s.readEnvelope_cases depth with e | ⟨_, _, _, e | e⟩ <;> simp [e, State.setEntry]

/-! ### Changes of a claim's state -/

@[simp] theorem State.abandonRamp_link (s : State) (h : Handle) (c : Claim) : (s.abandonRamp h c).link = s.link := by
  unfold State.abandonRamp
  split
  · split <;> simp
  · rfl
@[simp] theorem State.abandonRamp_claims (s : State) (h : Handle) (c : Claim) : (s.abandonRamp h c).claims = s.claims := by
  unfold State.abandonRamp
  split
  · split <;> simp
  · rfl
@[simp] theorem State.abandonRamp_table (s : State) (h : Handle) (c : Claim) : (s.abandonRamp h c).table = s.table := by
  unfold State.abandonRamp
  split
  · split <;> simp
  · rfl
@[simp] theorem State.abandonRamp_passes (s : State) (h : Handle) (c : Claim) : (s.abandonRamp h c).passes = s.passes := by
  unfold State.abandonRamp
  split
  · split <;> simp
  · rfl
@[simp] theorem State.abandonRamp_memory (s : State) (h : Handle) (c : Claim) : (s.abandonRamp h c).memory = s.memory := by
  unfold State.abandonRamp
  split
  · split <;> simp
  · rfl
@[simp] theorem State.abandonRamp_monitor (s : State) (h : Handle) (c : Claim) : (s.abandonRamp h c).monitor = s.monitor := by
  unfold State.abandonRamp
  split
  · split <;> simp
  · rfl
@[simp] theorem State.abandonRamp_inputs (s : State) (h : Handle) (c : Claim) : (s.abandonRamp h c).inputs = s.inputs := by
  unfold State.abandonRamp
  split
  · split <;> simp
  · rfl
@[simp] theorem State.abandonRamp_pending (s : State) (h : Handle) (c : Claim) : (s.abandonRamp h c).pending = s.pending := by
  unfold State.abandonRamp
  split
  · split <;> simp
  · rfl

@[simp] theorem State.enterTripped_table (s : State) (h : Handle) (r : TripReason) : (s.enterTripped h r).table = s.table := by
  unfold State.enterTripped
  dsimp only
  split <;> simp
@[simp] theorem State.enterTripped_memory (s : State) (h : Handle) (r : TripReason) : (s.enterTripped h r).memory = s.memory := by
  unfold State.enterTripped
  dsimp only
  split <;> simp
@[simp] theorem State.enterTripped_monitor (s : State) (h : Handle) (r : TripReason) : (s.enterTripped h r).monitor = s.monitor := by
  unfold State.enterTripped
  dsimp only
  split <;> simp
@[simp] theorem State.enterTripped_inputs (s : State) (h : Handle) (r : TripReason) : (s.enterTripped h r).inputs = s.inputs := by
  unfold State.enterTripped
  dsimp only
  split <;> simp
@[simp] theorem State.enterTripped_pending (s : State) (h : Handle) (r : TripReason) : (s.enterTripped h r).pending = s.pending := by
  unfold State.enterTripped
  dsimp only
  split <;> simp

@[simp] theorem State.recordLost_table (s : State) (h : Handle) : (s.recordLost h).table = s.table := by
  unfold State.recordLost
  dsimp only
  split <;> simp
@[simp] theorem State.recordLost_memory (s : State) (h : Handle) : (s.recordLost h).memory = s.memory := by
  unfold State.recordLost
  dsimp only
  split <;> simp
@[simp] theorem State.recordLost_monitor (s : State) (h : Handle) : (s.recordLost h).monitor = s.monitor := by
  unfold State.recordLost
  dsimp only
  split <;> simp
@[simp] theorem State.recordLost_inputs (s : State) (h : Handle) : (s.recordLost h).inputs = s.inputs := by
  unfold State.recordLost
  dsimp only
  split <;> simp
@[simp] theorem State.recordLost_pending (s : State) (h : Handle) : (s.recordLost h).pending = s.pending := by
  unfold State.recordLost
  dsimp only
  split <;> simp

/-- The table's read gives what the checked read gives; a loss has been taken in the state it leaves. -/
theorem State.tableRead_eq (s : State) (h : Handle) :
    s.tableRead h = ((s.readBase h).1,
      match (s.readBase h).1 with
      | some _ => (s.readBase h).2
      | none => (s.readBase h).2.recordLost h) := by
  unfold State.tableRead
  rcases s.readBase h with ⟨_ | r, t⟩ <;> rfl

@[simp] theorem State.tableRead_table (s : State) (h : Handle) : ((s.tableRead h).2).table = s.table := by
  rw [s.tableRead_eq h]
  rcases hr : (s.readBase h).1 with _ | r <;> simp
@[simp] theorem State.tableRead_monitor (s : State) (h : Handle) : ((s.tableRead h).2).monitor = s.monitor := by
  rw [s.tableRead_eq h]
  rcases hr : (s.readBase h).1 with _ | r <;> simp
@[simp] theorem State.tableRead_inputs (s : State) (h : Handle) : ((s.tableRead h).2).inputs = s.inputs := by
  rw [s.tableRead_eq h]
  rcases hr : (s.readBase h).1 with _ | r <;> simp
@[simp] theorem State.tableRead_pending (s : State) (h : Handle) : ((s.tableRead h).2).pending = s.pending := by
  rw [s.tableRead_eq h]
  rcases hr : (s.readBase h).1 with _ | r <;> simp

@[simp] theorem State.enterBraking_table (s : State) (h : Handle) : (s.enterBraking h).table = s.table := by
  have e := s.tableRead_table h
  unfold State.enterBraking
  split <;> simp_all
@[simp] theorem State.enterBraking_monitor (s : State) (h : Handle) : (s.enterBraking h).monitor = s.monitor := by
  have e := s.tableRead_monitor h
  unfold State.enterBraking
  split <;> simp_all
@[simp] theorem State.enterBraking_inputs (s : State) (h : Handle) : (s.enterBraking h).inputs = s.inputs := by
  have e := s.tableRead_inputs h
  unfold State.enterBraking
  split <;> simp_all
@[simp] theorem State.enterBraking_pending (s : State) (h : Handle) : (s.enterBraking h).pending = s.pending := by
  have e := s.tableRead_pending h
  unfold State.enterBraking
  split <;> simp_all

@[simp] theorem State.enterHalted_table (s : State) (h : Handle) : (s.enterHalted h).table = s.table := by
  simp [State.enterHalted]
@[simp] theorem State.enterHalted_memory (s : State) (h : Handle) : (s.enterHalted h).memory = s.memory := by
  simp [State.enterHalted]
@[simp] theorem State.enterHalted_monitor (s : State) (h : Handle) : (s.enterHalted h).monitor = s.monitor := by
  simp [State.enterHalted]
@[simp] theorem State.enterHalted_inputs (s : State) (h : Handle) : (s.enterHalted h).inputs = s.inputs := by
  simp [State.enterHalted]
@[simp] theorem State.enterHalted_pending (s : State) (h : Handle) : (s.enterHalted h).pending = s.pending := by
  simp [State.enterHalted]
@[simp] theorem State.enterHalted_reports (s : State) (h : Handle) : (s.enterHalted h).reports = s.reports := by
  simp [State.enterHalted]

@[simp] theorem State.freeClaim_monitor (s : State) (h : Handle) : (s.freeClaim h).monitor = s.monitor := by
  simp [State.freeClaim]
@[simp] theorem State.freeClaim_inputs (s : State) (h : Handle) : (s.freeClaim h).inputs = s.inputs := by
  simp [State.freeClaim]
@[simp] theorem State.freeClaim_pending (s : State) (h : Handle) : (s.freeClaim h).pending = s.pending := by
  simp [State.freeClaim]

/-- The braking of a list of claims, one after another. -/
theorem State.brakeAll_eq (s : State) (hs : List Handle) (n : Nat) :
    hs.foldl (fun acc h => if (acc.2.claim h).state.live then (acc.1 + 1, acc.2.enterBraking h) else acc) (n, s)
      = (n + (s.brakeAll hs).1, (s.brakeAll hs).2) := by
  induction hs generalizing s n with
  | nil => rfl
  | cons h hs ih =>
    unfold State.brakeAll
    simp only [List.foldl_cons]
    split
    · rw [ih _ (n + 1), ih _ (0 + 1)]
      simp only [Prod.mk.injEq, and_true]
      omega
    · rw [ih _ n, ih _ 0]
      simp

theorem State.brakeAll_nil (s : State) : s.brakeAll [] = (0, s) := rfl

/-- The first of a list is braked, if live, and then the rest. -/
theorem State.brakeAll_cons (s : State) (h : Handle) (hs : List Handle) :
    s.brakeAll (h :: hs) =
      if (s.claim h).state.live then (1 + ((s.enterBraking h).brakeAll hs).1, ((s.enterBraking h).brakeAll hs).2)
      else s.brakeAll hs := by
  conv_lhs => unfold State.brakeAll
  simp only [List.foldl_cons]
  split
  · rw [State.brakeAll_eq]
  · rfl

@[simp] theorem State.brakeAll_table (s : State) (hs : List Handle) : ((s.brakeAll hs).2).table = s.table := by
  induction hs generalizing s with
  | nil => rfl
  | cons h hs ih =>
    rw [State.brakeAll_cons]
    split <;> simp [ih]
@[simp] theorem State.brakeAll_monitor (s : State) (hs : List Handle) : ((s.brakeAll hs).2).monitor = s.monitor := by
  induction hs generalizing s with
  | nil => rfl
  | cons h hs ih =>
    rw [State.brakeAll_cons]
    split <;> simp [ih]
@[simp] theorem State.brakeAll_inputs (s : State) (hs : List Handle) : ((s.brakeAll hs).2).inputs = s.inputs := by
  induction hs generalizing s with
  | nil => rfl
  | cons h hs ih =>
    rw [State.brakeAll_cons]
    split <;> simp [ih]
@[simp] theorem State.brakeAll_pending (s : State) (hs : List Handle) : ((s.brakeAll hs).2).pending = s.pending := by
  induction hs generalizing s with
  | nil => rfl
  | cons h hs ih =>
    rw [State.brakeAll_cons]
    split <;> simp [ih]

/-- Entry to TRIPPED reaches no other claim. -/
theorem State.enterTripped_claim_of_ne (s : State) (h k : Handle) (r : TripReason) (hk : k ≠ h) :
    (s.enterTripped h r).claim k = s.claim k := by
  unfold State.enterTripped
  dsimp only
  split
  · have := s.claim_setClaim_of_ne h k
    simp_all [State.claim]
  · rfl

/-- A lost record reaches no other claim. -/
theorem State.recordLost_claim_of_ne (s : State) (h k : Handle) (hk : k ≠ h) : (s.recordLost h).claim k = s.claim k := by
  unfold State.recordLost
  dsimp only
  split
  · rw [State.enterTripped_claim_of_ne _ _ _ _ hk, State.claim_setClaim_of_ne _ _ _ _ hk]
  · rfl

/-- The table's read of a base part reaches no other claim. -/
theorem State.tableRead_claim_of_ne (s : State) (h k : Handle) (hk : k ≠ h) : (s.tableRead h).2.claim k = s.claim k := by
  rw [s.tableRead_eq h]
  have e : (s.readBase h).2.claim k = s.claim k := by simp [State.claim]
  rcases (s.readBase h).1 with _ | r
  · rw [← e]; exact State.recordLost_claim_of_ne _ _ _ hk
  · exact e

/-- Entry to BRAKING reaches no other claim. -/
theorem State.enterBraking_claim_of_ne (s : State) (h k : Handle) (hk : k ≠ h) :
    (s.enterBraking h).claim k = s.claim k := by
  have e := s.tableRead_claim_of_ne h k hk
  unfold State.enterBraking
  rcases ht : s.tableRead h with ⟨_ | r, t⟩
  · simp_all
  · have := t.claim_setClaim_of_ne h k
    simp_all [State.claim]

/-- Braking the claims of a list without repetition: those live at the start enter BRAKING one after another, and are
counted. -/
theorem State.brakeAll_eq_foldl (s : State) (hs : List Handle) (hn : hs.Nodup) :
    s.brakeAll hs = ((hs.filter (fun h => (s.claim h).state.live)).length,
      (hs.filter (fun h => (s.claim h).state.live)).foldl (fun u h => u.enterBraking h) s) := by
  induction hs generalizing s with
  | nil => rfl
  | cons h hs ih =>
    rw [List.nodup_cons] at hn
    rw [State.brakeAll_cons]
    split
    · rename_i hl
      have e : hs.filter (fun k => ((s.enterBraking h).claim k).state.live) = hs.filter (fun k => (s.claim k).state.live) := by
        apply List.filter_congr
        intro k hk
        rw [s.enterBraking_claim_of_ne h k (fun he => hn.1 (he ▸ hk))]
      rw [ih _ hn.2, e]
      simp [hl, Nat.add_comm]
    · rename_i hl
      rw [ih _ hn.2]
      simp [hl]

/-! ### The budgets -/

@[simp] theorem State.formBudgets_claims (s : State) : (s.formBudgets.2).claims = s.claims := by
  unfold State.formBudgets
  split
  · rfl
  · simp only
    split <;> simp
@[simp] theorem State.formBudgets_passes (s : State) : (s.formBudgets.2).passes = s.passes := by
  unfold State.formBudgets
  split
  · rfl
  · simp only
    split <;> simp
@[simp] theorem State.formBudgets_channels (s : State) : (s.formBudgets.2).channels = s.channels := by
  unfold State.formBudgets
  split
  · rfl
  · simp only
    split <;> simp
@[simp] theorem State.formBudgets_reports (s : State) : (s.formBudgets.2).reports = s.reports := by
  unfold State.formBudgets
  split
  · rfl
  · simp only
    split <;> simp
@[simp] theorem State.formBudgets_monitor (s : State) : (s.formBudgets.2).monitor = s.monitor := by
  unfold State.formBudgets
  split
  · rfl
  · simp only
    split <;> simp
@[simp] theorem State.formBudgets_inputs (s : State) : (s.formBudgets.2).inputs = s.inputs := by
  unfold State.formBudgets
  split
  · rfl
  · simp only
    split <;> simp
@[simp] theorem State.formBudgets_pending (s : State) : (s.formBudgets.2).pending = s.pending := by
  unfold State.formBudgets
  split
  · rfl
  · simp only
    split <;> simp

/-- Forming the budgets leaves all of the table but the stack. -/
theorem State.formBudgets_table (s : State) :
    s.formBudgets.2.table = { s.table with stack := s.formBudgets.2.table.stack } := by
  unfold State.formBudgets
  split
  · rfl
  · simp only
    split <;> exact s.readEnvelope_table _

/-- Forming the budgets leaves the depth of the stack. -/
@[simp] theorem State.formBudgets_depth (s : State) : s.formBudgets.2.table.stack.length = s.table.stack.length := by
  unfold State.formBudgets
  split
  · rfl
  · simp only
    split <;> simp

@[simp] theorem State.applyBudgets_link (s : State) (b : Budgets) : (s.applyBudgets b).link = s.link := by
  unfold State.applyBudgets
  simp only
  split <;> split <;> split <;> split <;> simp
@[simp] theorem State.applyBudgets_memory (s : State) (b : Budgets) : (s.applyBudgets b).memory = s.memory := by
  unfold State.applyBudgets
  simp only
  split <;> split <;> split <;> split <;> simp
@[simp] theorem State.applyBudgets_channels (s : State) (b : Budgets) : (s.applyBudgets b).channels = s.channels := by
  unfold State.applyBudgets
  simp only
  split <;> split <;> split <;> split <;> simp
@[simp] theorem State.applyBudgets_reports (s : State) (b : Budgets) : (s.applyBudgets b).reports = s.reports := by
  unfold State.applyBudgets
  simp only
  split <;> split <;> split <;> split <;> simp
@[simp] theorem State.applyBudgets_monitor (s : State) (b : Budgets) : (s.applyBudgets b).monitor = s.monitor := by
  unfold State.applyBudgets
  simp only
  split <;> split <;> split <;> split <;> simp
@[simp] theorem State.applyBudgets_inputs (s : State) (b : Budgets) : (s.applyBudgets b).inputs = s.inputs := by
  unfold State.applyBudgets
  simp only
  split <;> split <;> split <;> split <;> simp
@[simp] theorem State.applyBudgets_pending (s : State) (b : Budgets) : (s.applyBudgets b).pending = s.pending := by
  unfold State.applyBudgets
  simp only
  split <;> split <;> split <;> split <;> simp

@[simp] theorem State.recompute_channels (s : State) : (s.recompute).channels = s.channels := by
  simp [State.recompute]
@[simp] theorem State.recompute_reports (s : State) : (s.recompute).reports = s.reports := by
  simp [State.recompute]
@[simp] theorem State.recompute_monitor (s : State) : (s.recompute).monitor = s.monitor := by
  simp [State.recompute]
@[simp] theorem State.recompute_inputs (s : State) : (s.recompute).inputs = s.inputs := by
  simp [State.recompute]
@[simp] theorem State.recompute_pending (s : State) : (s.recompute).pending = s.pending := by
  simp [State.recompute]

@[simp] theorem State.readEnvelopeAndRecompute_channels (s : State) (depth : Nat) : ((s.readEnvelopeAndRecompute depth).2).channels = s.channels := by
  have e := s.readEnvelope_channels depth
  unfold State.readEnvelopeAndRecompute
  split <;> simp_all
@[simp] theorem State.readEnvelopeAndRecompute_reports (s : State) (depth : Nat) : ((s.readEnvelopeAndRecompute depth).2).reports = s.reports := by
  have e := s.readEnvelope_reports depth
  unfold State.readEnvelopeAndRecompute
  split <;> simp_all
@[simp] theorem State.readEnvelopeAndRecompute_monitor (s : State) (depth : Nat) : ((s.readEnvelopeAndRecompute depth).2).monitor = s.monitor := by
  have e := s.readEnvelope_monitor depth
  unfold State.readEnvelopeAndRecompute
  split <;> simp_all
@[simp] theorem State.readEnvelopeAndRecompute_inputs (s : State) (depth : Nat) : ((s.readEnvelopeAndRecompute depth).2).inputs = s.inputs := by
  have e := s.readEnvelope_inputs depth
  unfold State.readEnvelopeAndRecompute
  split <;> simp_all
@[simp] theorem State.readEnvelopeAndRecompute_pending (s : State) (depth : Nat) : ((s.readEnvelopeAndRecompute depth).2).pending = s.pending := by
  have e := s.readEnvelope_pending depth
  unfold State.readEnvelopeAndRecompute
  split <;> simp_all

@[simp] theorem State.supplyFault_monitor (s : State) (d r : Nat) : (s.supplyFault d r).monitor = s.monitor := by
  simp [State.supplyFault]
@[simp] theorem State.supplyFault_inputs (s : State) (d r : Nat) : (s.supplyFault d r).inputs = s.inputs := by
  simp [State.supplyFault]
@[simp] theorem State.supplyFault_pending (s : State) (d r : Nat) : (s.supplyFault d r).pending = s.pending := by
  simp [State.supplyFault]

end Sys2Proof.Machine
end

