-- ==== Sys2Proof/Laws/Steps.lean ====
section
/-! SUPPORT. What the table's own steps and the channels' work leave as it stands, how the queue gives its next request, and
the walk of a pass one entry at a time. -/

namespace Sys2Proof.Machine

/-! ### Requests taken -/

@[simp] theorem State.createClaim_link (s : State) (h : Handle) (b : BindFields) : (s.createClaim h b).link = s.link := by
  unfold State.createClaim
  dsimp only
  cases b.stageMap.partner <;> simp
@[simp] theorem State.createClaim_reports (s : State) (h : Handle) (b : BindFields) : (s.createClaim h b).reports = s.reports := by
  unfold State.createClaim
  dsimp only
  cases b.stageMap.partner <;> simp
@[simp] theorem State.createClaim_monitor (s : State) (h : Handle) (b : BindFields) : (s.createClaim h b).monitor = s.monitor := by
  unfold State.createClaim
  dsimp only
  cases b.stageMap.partner <;> simp
@[simp] theorem State.createClaim_inputs (s : State) (h : Handle) (b : BindFields) : (s.createClaim h b).inputs = s.inputs := by
  unfold State.createClaim
  dsimp only
  cases b.stageMap.partner <;> simp
@[simp] theorem State.createClaim_pending (s : State) (h : Handle) (b : BindFields) : (s.createClaim h b).pending = s.pending := by
  unfold State.createClaim
  dsimp only
  cases b.stageMap.partner <;> simp

@[simp] theorem State.tripIfFaulted_table (s : State) (h : Handle) (m : StageMap) : (s.tripIfFaulted h m).table = s.table := by
  unfold State.tripIfFaulted
  split <;> simp
@[simp] theorem State.tripIfFaulted_memory (s : State) (h : Handle) (m : StageMap) : (s.tripIfFaulted h m).memory = s.memory := by
  unfold State.tripIfFaulted
  split <;> simp
@[simp] theorem State.tripIfFaulted_monitor (s : State) (h : Handle) (m : StageMap) : (s.tripIfFaulted h m).monitor = s.monitor := by
  unfold State.tripIfFaulted
  split <;> simp
@[simp] theorem State.tripIfFaulted_inputs (s : State) (h : Handle) (m : StageMap) : (s.tripIfFaulted h m).inputs = s.inputs := by
  unfold State.tripIfFaulted
  split <;> simp
@[simp] theorem State.tripIfFaulted_pending (s : State) (h : Handle) (m : StageMap) : (s.tripIfFaulted h m).pending = s.pending := by
  unfold State.tripIfFaulted
  split <;> simp

@[simp] theorem State.enterReleasing_link (s : State) (h : Handle) : (s.enterReleasing h).link = s.link := by
  unfold State.enterReleasing
  dsimp only
  split <;> simp
@[simp] theorem State.enterReleasing_table (s : State) (h : Handle) : (s.enterReleasing h).table = s.table := by
  unfold State.enterReleasing
  dsimp only
  split <;> simp
@[simp] theorem State.enterReleasing_passes (s : State) (h : Handle) : (s.enterReleasing h).passes = s.passes := by
  unfold State.enterReleasing
  dsimp only
  split <;> simp
@[simp] theorem State.enterReleasing_memory (s : State) (h : Handle) : (s.enterReleasing h).memory = s.memory := by
  unfold State.enterReleasing
  dsimp only
  split <;> simp
@[simp] theorem State.enterReleasing_reports (s : State) (h : Handle) : (s.enterReleasing h).reports = s.reports := by
  unfold State.enterReleasing
  dsimp only
  split <;> simp
@[simp] theorem State.enterReleasing_monitor (s : State) (h : Handle) : (s.enterReleasing h).monitor = s.monitor := by
  unfold State.enterReleasing
  dsimp only
  split <;> simp
@[simp] theorem State.enterReleasing_inputs (s : State) (h : Handle) : (s.enterReleasing h).inputs = s.inputs := by
  unfold State.enterReleasing
  dsimp only
  split <;> simp
@[simp] theorem State.enterReleasing_pending (s : State) (h : Handle) : (s.enterReleasing h).pending = s.pending := by
  unfold State.enterReleasing
  dsimp only
  split <;> simp

@[simp] theorem State.resumeClaim_link (s : State) (h : Handle) : (s.resumeClaim h).link = s.link := by
  unfold State.resumeClaim
  dsimp only
  split <;> simp
@[simp] theorem State.resumeClaim_table (s : State) (h : Handle) : (s.resumeClaim h).table = s.table := by
  unfold State.resumeClaim
  dsimp only
  split <;> simp
@[simp] theorem State.resumeClaim_memory (s : State) (h : Handle) : (s.resumeClaim h).memory = s.memory := by
  unfold State.resumeClaim
  dsimp only
  split <;> simp
@[simp] theorem State.resumeClaim_reports (s : State) (h : Handle) : (s.resumeClaim h).reports = s.reports := by
  unfold State.resumeClaim
  dsimp only
  split <;> simp
@[simp] theorem State.resumeClaim_monitor (s : State) (h : Handle) : (s.resumeClaim h).monitor = s.monitor := by
  unfold State.resumeClaim
  dsimp only
  split <;> simp
@[simp] theorem State.resumeClaim_inputs (s : State) (h : Handle) : (s.resumeClaim h).inputs = s.inputs := by
  unfold State.resumeClaim
  dsimp only
  split <;> simp
@[simp] theorem State.resumeClaim_pending (s : State) (h : Handle) : (s.resumeClaim h).pending = s.pending := by
  unfold State.resumeClaim
  dsimp only
  split <;> simp

@[simp] theorem takeBind_monitor (s : State) (h : Handle) (b : BindFields) : (takeBind s h b).monitor = s.monitor := by
  unfold takeBind
  dsimp only
  split <;> simp
@[simp] theorem takeBind_inputs (s : State) (h : Handle) (b : BindFields) : (takeBind s h b).inputs = s.inputs := by
  unfold takeBind
  dsimp only
  split <;> simp
@[simp] theorem takeBind_pending (s : State) (h : Handle) (b : BindFields) : (takeBind s h b).pending = s.pending := by
  unfold takeBind
  dsimp only
  split <;> simp

@[simp] theorem takeModify_monitor (s : State) (h : Handle) (m : ModifyFields) : (takeModify s h m).monitor = s.monitor := by
  have e := s.tableRead_monitor h
  unfold takeModify
  dsimp only
  split
  · simp
  · split
    · simp
    · split
      · simp_all
      · split
        · split <;> simp_all
        · simp_all
@[simp] theorem takeModify_inputs (s : State) (h : Handle) (m : ModifyFields) : (takeModify s h m).inputs = s.inputs := by
  have e := s.tableRead_inputs h
  unfold takeModify
  dsimp only
  split
  · simp
  · split
    · simp
    · split
      · simp_all
      · split
        · split <;> simp_all
        · simp_all
@[simp] theorem takeModify_pending (s : State) (h : Handle) (m : ModifyFields) : (takeModify s h m).pending = s.pending := by
  have e := s.tableRead_pending h
  unfold takeModify
  dsimp only
  split
  · simp
  · split
    · simp
    · split
      · simp_all
      · split
        · split <;> simp_all
        · simp_all

@[simp] theorem takeRetire_monitor (s : State) (h : Handle) : (takeRetire s h).monitor = s.monitor := by
  unfold takeRetire
  dsimp only
  split <;> simp
@[simp] theorem takeRetire_inputs (s : State) (h : Handle) : (takeRetire s h).inputs = s.inputs := by
  unfold takeRetire
  dsimp only
  split <;> simp
@[simp] theorem takeRetire_pending (s : State) (h : Handle) : (takeRetire s h).pending = s.pending := by
  unfold takeRetire
  dsimp only
  split <;> simp

@[simp] theorem takeResume_monitor (s : State) (h : Handle) : (takeResume s h).monitor = s.monitor := by
  unfold takeResume
  dsimp only
  split <;> simp
@[simp] theorem takeResume_inputs (s : State) (h : Handle) : (takeResume s h).inputs = s.inputs := by
  unfold takeResume
  dsimp only
  split <;> simp
@[simp] theorem takeResume_pending (s : State) (h : Handle) : (takeResume s h).pending = s.pending := by
  unfold takeResume
  dsimp only
  split <;> simp

@[simp] theorem takePush_monitor (s : State) (h : Handle) (e : Envelope) : (takePush s h e).monitor = s.monitor := by
  unfold takePush
  dsimp only
  split <;> simp
@[simp] theorem takePush_inputs (s : State) (h : Handle) (e : Envelope) : (takePush s h e).inputs = s.inputs := by
  unfold takePush
  dsimp only
  split <;> simp
@[simp] theorem takePush_pending (s : State) (h : Handle) (e : Envelope) : (takePush s h e).pending = s.pending := by
  unfold takePush
  dsimp only
  split <;> simp

@[simp] theorem takePop_monitor (s : State) (h : Handle) (tag : Nat) : (takePop s h tag).monitor = s.monitor := by
  have e := s.readEnvelopeAndRecompute_monitor s.table.stack.length
  unfold takePop
  dsimp only
  split
  · simp
  · split
    · split <;> simp_all
    · simp_all
@[simp] theorem takePop_inputs (s : State) (h : Handle) (tag : Nat) : (takePop s h tag).inputs = s.inputs := by
  have e := s.readEnvelopeAndRecompute_inputs s.table.stack.length
  unfold takePop
  dsimp only
  split
  · simp
  · split
    · split <;> simp_all
    · simp_all
@[simp] theorem takePop_pending (s : State) (h : Handle) (tag : Nat) : (takePop s h tag).pending = s.pending := by
  have e := s.readEnvelopeAndRecompute_pending s.table.stack.length
  unfold takePop
  dsimp only
  split
  · simp
  · split
    · split <;> simp_all
    · simp_all

@[simp] theorem State.actOn_monitor (s : State) (r : Request) : (s.actOn r).monitor = s.monitor := by
  unfold State.actOn
  split <;> simp
@[simp] theorem State.actOn_inputs (s : State) (r : Request) : (s.actOn r).inputs = s.inputs := by
  unfold State.actOn
  split <;> simp
@[simp] theorem State.actOn_pending (s : State) (r : Request) : (s.actOn r).pending = s.pending := by
  unfold State.actOn
  split <;> simp

@[simp] theorem State.takeNext_monitor (s : State) : (s.takeNext).monitor = s.monitor := by
  unfold State.takeNext
  split <;> simp
@[simp] theorem State.takeNext_inputs (s : State) : (s.takeNext).inputs = s.inputs := by
  unfold State.takeNext
  split <;> simp
@[simp] theorem State.takeNext_pending (s : State) : (s.takeNext).pending = s.pending := by
  unfold State.takeNext
  split <;> simp

/-- The next request is the head of the urgent queue, and of the normal queue only when the urgent one is empty (R110). -/
theorem LinkPort.next_eq_some (l l' : LinkPort) (r : Request) :
    l.next = some (r, l') ↔
      (∃ rest, l.urgent = r :: rest ∧ l' = { l with urgent := rest })
        ∨ (l.urgent = [] ∧ ∃ rest, l.normal = r :: rest ∧ l' = { l with normal := rest }) := by
  unfold LinkPort.next
  rcases hu : l.urgent with _ | ⟨a, as⟩
  · rcases hn : l.normal with _ | ⟨b, bs⟩
    · simp
    · simp only [Option.some.injEq, Prod.mk.injEq, List.cons.injEq]
      constructor
      · rintro ⟨rfl, rfl⟩; exact .inr ⟨trivial, bs, ⟨rfl, rfl⟩, rfl⟩
      · rintro (⟨_, h, _⟩ | ⟨_, _, ⟨rfl, rfl⟩, rfl⟩)
        · simp at h
        · exact ⟨rfl, rfl⟩
  · simp only [Option.some.injEq, Prod.mk.injEq, List.cons.injEq]
    constructor
    · rintro ⟨rfl, rfl⟩; exact .inl ⟨as, ⟨rfl, rfl⟩, rfl⟩
    · rintro (⟨_, ⟨rfl, rfl⟩, rfl⟩ | ⟨h, _⟩)
      · exact ⟨rfl, rfl⟩
      · simp at h

/-- No request waits exactly when both queues are empty. -/
theorem LinkPort.next_eq_none (l : LinkPort) : l.next = none ↔ l.urgent = [] ∧ l.normal = [] := by
  unfold LinkPort.next
  rcases hu : l.urgent with _ | _ <;> rcases hn : l.normal with _ | _ <;> simp

/-! ### Passes -/

@[simp] theorem readForPass_table (s : State) (acc : List SnapshotEntry) (h : Handle) : ((readForPass (acc, s) h).2).table = s.table := by
  have e := s.tableRead_table h
  unfold readForPass
  dsimp only
  split
  · split <;> simp_all
  · rfl
@[simp] theorem readForPass_monitor (s : State) (acc : List SnapshotEntry) (h : Handle) : ((readForPass (acc, s) h).2).monitor = s.monitor := by
  have e := s.tableRead_monitor h
  unfold readForPass
  dsimp only
  split
  · split <;> simp_all
  · rfl
@[simp] theorem readForPass_inputs (s : State) (acc : List SnapshotEntry) (h : Handle) : ((readForPass (acc, s) h).2).inputs = s.inputs := by
  have e := s.tableRead_inputs h
  unfold readForPass
  dsimp only
  split
  · split <;> simp_all
  · rfl
@[simp] theorem readForPass_pending (s : State) (acc : List SnapshotEntry) (h : Handle) : ((readForPass (acc, s) h).2).pending = s.pending := by
  have e := s.tableRead_pending h
  unfold readForPass
  dsimp only
  split
  · split <;> simp_all
  · rfl

/-- A read of one claim leaves the passes but for the call that a lost record makes. -/
theorem readForPass_not_live (s : State) (acc : List SnapshotEntry) (h : Handle) (hl : (s.claim h).state.live = false) :
    readForPass (acc, s) h = (acc, s) := by
  simp [readForPass, hl]

@[simp] theorem readsForPass_table (s : State) (acc : List SnapshotEntry) (hs : List Handle) : ((hs.foldl readForPass (acc, s)).2).table = s.table := by
  induction hs generalizing s acc with
  | nil => rfl
  | cons h hs ih =>
    rw [List.foldl_cons, show readForPass (acc, s) h = ((readForPass (acc, s) h).1, (readForPass (acc, s) h).2) from rfl,
      ih]
    simp
@[simp] theorem readsForPass_monitor (s : State) (acc : List SnapshotEntry) (hs : List Handle) : ((hs.foldl readForPass (acc, s)).2).monitor = s.monitor := by
  induction hs generalizing s acc with
  | nil => rfl
  | cons h hs ih =>
    rw [List.foldl_cons, show readForPass (acc, s) h = ((readForPass (acc, s) h).1, (readForPass (acc, s) h).2) from rfl,
      ih]
    simp
@[simp] theorem readsForPass_inputs (s : State) (acc : List SnapshotEntry) (hs : List Handle) : ((hs.foldl readForPass (acc, s)).2).inputs = s.inputs := by
  induction hs generalizing s acc with
  | nil => rfl
  | cons h hs ih =>
    rw [List.foldl_cons, show readForPass (acc, s) h = ((readForPass (acc, s) h).1, (readForPass (acc, s) h).2) from rfl,
      ih]
    simp
@[simp] theorem readsForPass_pending (s : State) (acc : List SnapshotEntry) (hs : List Handle) : ((hs.foldl readForPass (acc, s)).2).pending = s.pending := by
  induction hs generalizing s acc with
  | nil => rfl
  | cons h hs ih =>
    rw [List.foldl_cons, show readForPass (acc, s) h = ((readForPass (acc, s) h).1, (readForPass (acc, s) h).2) from rfl,
      ih]
    simp

@[simp] theorem State.startPass_table (s : State) : (s.startPass).table = s.table := by
  simp [State.startPass]
@[simp] theorem State.startPass_monitor (s : State) : (s.startPass).monitor = s.monitor := by
  simp [State.startPass]
@[simp] theorem State.startPass_inputs (s : State) : (s.startPass).inputs = s.inputs := by
  simp [State.startPass]
@[simp] theorem State.startPass_pending (s : State) : (s.startPass).pending = s.pending := by
  simp [State.startPass]

@[simp] theorem publishLine_link (s : State) (l : GrantLine) : (publishLine s l).link = s.link := by
  unfold publishLine
  dsimp only
  split <;> simp
@[simp] theorem publishLine_table (s : State) (l : GrantLine) : (publishLine s l).table = s.table := by
  unfold publishLine
  dsimp only
  split <;> simp
@[simp] theorem publishLine_passes (s : State) (l : GrantLine) : (publishLine s l).passes = s.passes := by
  unfold publishLine
  dsimp only
  split <;> simp
@[simp] theorem publishLine_memory (s : State) (l : GrantLine) : (publishLine s l).memory = s.memory := by
  unfold publishLine
  dsimp only
  split <;> simp
@[simp] theorem publishLine_channels (s : State) (l : GrantLine) : (publishLine s l).channels = s.channels := by
  unfold publishLine
  dsimp only
  split <;> simp
@[simp] theorem publishLine_reports (s : State) (l : GrantLine) : (publishLine s l).reports = s.reports := by
  unfold publishLine
  dsimp only
  split <;> simp
@[simp] theorem publishLine_monitor (s : State) (l : GrantLine) : (publishLine s l).monitor = s.monitor := by
  unfold publishLine
  dsimp only
  split <;> simp
@[simp] theorem publishLine_inputs (s : State) (l : GrantLine) : (publishLine s l).inputs = s.inputs := by
  unfold publishLine
  dsimp only
  split <;> simp
@[simp] theorem publishLine_pending (s : State) (l : GrantLine) : (publishLine s l).pending = s.pending := by
  unfold publishLine
  dsimp only
  split <;> simp

@[simp] theorem publishLines_link (s : State) (ls : List GrantLine) : (ls.foldl publishLine s).link = s.link := by
  induction ls generalizing s with
  | nil => rfl
  | cons l ls ih => simp [ih]
@[simp] theorem publishLines_table (s : State) (ls : List GrantLine) : (ls.foldl publishLine s).table = s.table := by
  induction ls generalizing s with
  | nil => rfl
  | cons l ls ih => simp [ih]
@[simp] theorem publishLines_passes (s : State) (ls : List GrantLine) : (ls.foldl publishLine s).passes = s.passes := by
  induction ls generalizing s with
  | nil => rfl
  | cons l ls ih => simp [ih]
@[simp] theorem publishLines_memory (s : State) (ls : List GrantLine) : (ls.foldl publishLine s).memory = s.memory := by
  induction ls generalizing s with
  | nil => rfl
  | cons l ls ih => simp [ih]
@[simp] theorem publishLines_channels (s : State) (ls : List GrantLine) : (ls.foldl publishLine s).channels = s.channels := by
  induction ls generalizing s with
  | nil => rfl
  | cons l ls ih => simp [ih]
@[simp] theorem publishLines_reports (s : State) (ls : List GrantLine) : (ls.foldl publishLine s).reports = s.reports := by
  induction ls generalizing s with
  | nil => rfl
  | cons l ls ih => simp [ih]
@[simp] theorem publishLines_monitor (s : State) (ls : List GrantLine) : (ls.foldl publishLine s).monitor = s.monitor := by
  induction ls generalizing s with
  | nil => rfl
  | cons l ls ih => simp [ih]
@[simp] theorem publishLines_inputs (s : State) (ls : List GrantLine) : (ls.foldl publishLine s).inputs = s.inputs := by
  induction ls generalizing s with
  | nil => rfl
  | cons l ls ih => simp [ih]
@[simp] theorem publishLines_pending (s : State) (ls : List GrantLine) : (ls.foldl publishLine s).pending = s.pending := by
  induction ls generalizing s with
  | nil => rfl
  | cons l ls ih => simp [ih]

@[simp] theorem State.publish_link (s : State) (p : Pass) : (s.publish p).link = s.link := by
  simp [State.publish]
@[simp] theorem State.publish_table (s : State) (p : Pass) : (s.publish p).table = s.table := by
  simp [State.publish]
@[simp] theorem State.publish_memory (s : State) (p : Pass) : (s.publish p).memory = s.memory := by
  simp [State.publish]
@[simp] theorem State.publish_channels (s : State) (p : Pass) : (s.publish p).channels = s.channels := by
  simp [State.publish]
@[simp] theorem State.publish_reports (s : State) (p : Pass) : (s.publish p).reports = s.reports := by
  simp [State.publish]
@[simp] theorem State.publish_monitor (s : State) (p : Pass) : (s.publish p).monitor = s.monitor := by
  simp [State.publish]
@[simp] theorem State.publish_inputs (s : State) (p : Pass) : (s.publish p).inputs = s.inputs := by
  simp [State.publish]
@[simp] theorem State.publish_pending (s : State) (p : Pass) : (s.publish p).pending = s.pending := by
  simp [State.publish]

@[simp] theorem State.completePass_monitor (s : State) (p : Pass) : (s.completePass p).monitor = s.monitor := by
  unfold State.completePass
  dsimp only
  split <;> split <;> simp
@[simp] theorem State.completePass_inputs (s : State) (p : Pass) : (s.completePass p).inputs = s.inputs := by
  unfold State.completePass
  dsimp only
  split <;> split <;> simp
@[simp] theorem State.completePass_pending (s : State) (p : Pass) : (s.completePass p).pending = s.pending := by
  unfold State.completePass
  dsimp only
  split <;> split <;> simp

@[simp] theorem State.settleWith_monitor (s : State) (n : Nat) : (State.settleWith n s).monitor = s.monitor := by
  induction n generalizing s with
  | zero => unfold State.settleWith; split <;> simp
  | succ n ih =>
    unfold State.settleWith
    split
    · simp
    · split
      · split <;> simp [ih]
      · rfl
@[simp] theorem State.settleWith_inputs (s : State) (n : Nat) : (State.settleWith n s).inputs = s.inputs := by
  induction n generalizing s with
  | zero => unfold State.settleWith; split <;> simp
  | succ n ih =>
    unfold State.settleWith
    split
    · simp
    · split
      · split <;> simp [ih]
      · rfl
@[simp] theorem State.settleWith_pending (s : State) (n : Nat) : (State.settleWith n s).pending = s.pending := by
  induction n generalizing s with
  | zero => unfold State.settleWith; split <;> simp
  | succ n ih =>
    unfold State.settleWith
    split
    · simp
    · split
      · split <;> simp [ih]
      · rfl

@[simp] theorem State.settle_monitor (s : State) : (s.settle).monitor = s.monitor := by
  simp [State.settle]
@[simp] theorem State.settle_inputs (s : State) : (s.settle).inputs = s.inputs := by
  simp [State.settle]
@[simp] theorem State.settle_pending (s : State) : (s.settle).pending = s.pending := by
  simp [State.settle]

@[simp] theorem walk_nil (cut : Option Nat) (d r : Nat) : walk cut [] d r = ([], d, r) := rfl

/-- One entry of the walk: its grants, and the walk of the rest with the remainders left (R93, R94). -/
theorem walk_cons (cut : Option Nat) (e : SnapshotEntry) (es : List SnapshotEntry) (d r : Nat) :
    walk cut (e :: es) d r =
      (⟨e.handle, e.floor + e.extra cut d, e.returnGrant r⟩
          :: (walk cut es (d - e.extra cut d) (r - e.returnGrant r)).1,
        (walk cut es (d - e.extra cut d) (r - e.returnGrant r)).2) := rfl

/-- What the unit computes from a snapshot, without pairs. -/
theorem Snapshot.compute_eq (sn : Snapshot) :
    let w := walk sn.budgets.cut (grantOrder sn.entries) (sn.budgets.drive - sn.floors) sn.budgets.ret
    sn.compute = ⟨sn, w.2.1, w.2.2, w.1⟩ := rfl

/-- Extra above the floor never exceeds the remainder. -/
theorem SnapshotEntry.extra_le (e : SnapshotEntry) (cut : Option Nat) (d : Nat) : e.extra cut d ≤ d := by
  unfold SnapshotEntry.extra
  split
  · exact Nat.min_le_left _ _
  · exact Nat.zero_le _

/-- A return grant never exceeds the remainder. -/
theorem SnapshotEntry.returnGrant_le (e : SnapshotEntry) (r : Nat) : e.returnGrant r ≤ r := by
  unfold SnapshotEntry.returnGrant
  split
  · exact Nat.min_le_right _ _
  · exact Nat.zero_le _

/-- Putting an entry in its place loses none and adds none. -/
theorem insertInOrder_perm (e : SnapshotEntry) (es : List SnapshotEntry) : (insertInOrder e es).Perm (e :: es) := by
  induction es with
  | nil => exact .refl _
  | cons x xs ih =>
    unfold insertInOrder
    split
    · exact .refl _
    · exact (ih.cons x).trans (.swap e x xs)

/-! ### Channels -/

@[simp] theorem State.readRecords_channels (s : State) (h : Handle) (c : ClaimClass) : ((s.readRecords h c).2).channels = s.channels := by
  have e := s.readBase_channels h
  unfold State.readRecords
  split
  · simp_all
  · rename_i r t hr
    have e' := t.readOptional_channels h
    split
    · simp_all
    · split <;> simp_all
    · split <;> simp_all
@[simp] theorem State.readRecords_reports (s : State) (h : Handle) (c : ClaimClass) : ((s.readRecords h c).2).reports = s.reports := by
  have e := s.readBase_reports h
  unfold State.readRecords
  split
  · simp_all
  · rename_i r t hr
    have e' := t.readOptional_reports h
    split
    · simp_all
    · split <;> simp_all
    · split <;> simp_all
@[simp] theorem State.readRecords_claims (s : State) (h : Handle) (c : ClaimClass) : ((s.readRecords h c).2).claims = s.claims := by
  have e := s.readBase_claims h
  unfold State.readRecords
  split
  · simp_all
  · rename_i r t hr
    have e' := t.readOptional_claims h
    split
    · simp_all
    · split <;> simp_all
    · split <;> simp_all
@[simp] theorem State.readRecords_table (s : State) (h : Handle) (c : ClaimClass) : ((s.readRecords h c).2).table = s.table := by
  have e := s.readBase_table h
  unfold State.readRecords
  split
  · simp_all
  · rename_i r t hr
    have e' := t.readOptional_table h
    split
    · simp_all
    · split <;> simp_all
    · split <;> simp_all
@[simp] theorem State.readRecords_passes (s : State) (h : Handle) (c : ClaimClass) : ((s.readRecords h c).2).passes = s.passes := by
  have e := s.readBase_passes h
  unfold State.readRecords
  split
  · simp_all
  · rename_i r t hr
    have e' := t.readOptional_passes h
    split
    · simp_all
    · split <;> simp_all
    · split <;> simp_all
@[simp] theorem State.readRecords_monitor (s : State) (h : Handle) (c : ClaimClass) : ((s.readRecords h c).2).monitor = s.monitor := by
  have e := s.readBase_monitor h
  unfold State.readRecords
  split
  · simp_all
  · rename_i r t hr
    have e' := t.readOptional_monitor h
    split
    · simp_all
    · split <;> simp_all
    · split <;> simp_all
@[simp] theorem State.readRecords_inputs (s : State) (h : Handle) (c : ClaimClass) : ((s.readRecords h c).2).inputs = s.inputs := by
  have e := s.readBase_inputs h
  unfold State.readRecords
  split
  · simp_all
  · rename_i r t hr
    have e' := t.readOptional_inputs h
    split
    · simp_all
    · split <;> simp_all
    · split <;> simp_all
@[simp] theorem State.readRecords_pending (s : State) (h : Handle) (c : ClaimClass) : ((s.readRecords h c).2).pending = s.pending := by
  have e := s.readBase_pending h
  unfold State.readRecords
  split
  · simp_all
  · rename_i r t hr
    have e' := t.readOptional_pending h
    split
    · simp_all
    · split <;> simp_all
    · split <;> simp_all

@[simp] theorem State.channelTrip_link (s : State) (st : Stage) (h : Handle) (m : StageMap) (r : TripReason) : (s.channelTrip st h m r).link = s.link := by
  simp [State.channelTrip]
@[simp] theorem State.channelTrip_memory (s : State) (st : Stage) (h : Handle) (m : StageMap) (r : TripReason) : (s.channelTrip st h m r).memory = s.memory := by
  simp [State.channelTrip]
@[simp] theorem State.channelTrip_claims (s : State) (st : Stage) (h : Handle) (m : StageMap) (r : TripReason) : (s.channelTrip st h m r).claims = s.claims := by
  simp [State.channelTrip]
@[simp] theorem State.channelTrip_table (s : State) (st : Stage) (h : Handle) (m : StageMap) (r : TripReason) : (s.channelTrip st h m r).table = s.table := by
  simp [State.channelTrip]
@[simp] theorem State.channelTrip_passes (s : State) (st : Stage) (h : Handle) (m : StageMap) (r : TripReason) : (s.channelTrip st h m r).passes = s.passes := by
  simp [State.channelTrip]
@[simp] theorem State.channelTrip_monitor (s : State) (st : Stage) (h : Handle) (m : StageMap) (r : TripReason) : (s.channelTrip st h m r).monitor = s.monitor := by
  simp [State.channelTrip]
@[simp] theorem State.channelTrip_inputs (s : State) (st : Stage) (h : Handle) (m : StageMap) (r : TripReason) : (s.channelTrip st h m r).inputs = s.inputs := by
  simp [State.channelTrip]
@[simp] theorem State.channelTrip_pending (s : State) (st : Stage) (h : Handle) (m : StageMap) (r : TripReason) : (s.channelTrip st h m r).pending = s.pending := by
  simp [State.channelTrip]

@[simp] theorem State.recordShort_memory (s : State) (st : Stage) (h : Handle) (a b : Bool) : (s.recordShort st h a b).memory = s.memory := by
  unfold State.recordShort
  split
  · dsimp only
    split <;> simp
  · simp
@[simp] theorem State.recordShort_reports (s : State) (st : Stage) (h : Handle) (a b : Bool) : (s.recordShort st h a b).reports = s.reports := by
  unfold State.recordShort
  split
  · dsimp only
    split <;> simp
  · simp
@[simp] theorem State.recordShort_claims (s : State) (st : Stage) (h : Handle) (a b : Bool) : (s.recordShort st h a b).claims = s.claims := by
  unfold State.recordShort
  split
  · dsimp only
    split <;> simp
  · simp
@[simp] theorem State.recordShort_table (s : State) (st : Stage) (h : Handle) (a b : Bool) : (s.recordShort st h a b).table = s.table := by
  unfold State.recordShort
  split
  · dsimp only
    split <;> simp
  · simp
@[simp] theorem State.recordShort_passes (s : State) (st : Stage) (h : Handle) (a b : Bool) : (s.recordShort st h a b).passes = s.passes := by
  unfold State.recordShort
  split
  · dsimp only
    split <;> simp
  · simp
@[simp] theorem State.recordShort_monitor (s : State) (st : Stage) (h : Handle) (a b : Bool) : (s.recordShort st h a b).monitor = s.monitor := by
  unfold State.recordShort
  split
  · dsimp only
    split <;> simp
  · simp
@[simp] theorem State.recordShort_inputs (s : State) (st : Stage) (h : Handle) (a b : Bool) : (s.recordShort st h a b).inputs = s.inputs := by
  unfold State.recordShort
  split
  · dsimp only
    split <;> simp
  · simp
@[simp] theorem State.recordShort_pending (s : State) (st : Stage) (h : Handle) (a b : Bool) : (s.recordShort st h a b).pending = s.pending := by
  unfold State.recordShort
  split
  · dsimp only
    split <;> simp
  · simp

@[simp] theorem State.regulateToward_memory (s : State) (st : Stage) (h : Handle) (c : Claim) (m : StageMap) (r : BaseRecord)
    (o : Option OptionalRecord) (d : Int) (x y : StageSample) : (s.regulateToward st h c m r o d x y).memory = s.memory := by
  unfold State.regulateToward
  dsimp only
  cases m.partner <;> simp
@[simp] theorem State.regulateToward_reports (s : State) (st : Stage) (h : Handle) (c : Claim) (m : StageMap) (r : BaseRecord)
    (o : Option OptionalRecord) (d : Int) (x y : StageSample) : (s.regulateToward st h c m r o d x y).reports = s.reports := by
  unfold State.regulateToward
  dsimp only
  cases m.partner <;> simp
@[simp] theorem State.regulateToward_claims (s : State) (st : Stage) (h : Handle) (c : Claim) (m : StageMap) (r : BaseRecord)
    (o : Option OptionalRecord) (d : Int) (x y : StageSample) : (s.regulateToward st h c m r o d x y).claims = s.claims := by
  unfold State.regulateToward
  dsimp only
  cases m.partner <;> simp
@[simp] theorem State.regulateToward_table (s : State) (st : Stage) (h : Handle) (c : Claim) (m : StageMap) (r : BaseRecord)
    (o : Option OptionalRecord) (d : Int) (x y : StageSample) : (s.regulateToward st h c m r o d x y).table = s.table := by
  unfold State.regulateToward
  dsimp only
  cases m.partner <;> simp
@[simp] theorem State.regulateToward_passes (s : State) (st : Stage) (h : Handle) (c : Claim) (m : StageMap) (r : BaseRecord)
    (o : Option OptionalRecord) (d : Int) (x y : StageSample) : (s.regulateToward st h c m r o d x y).passes = s.passes := by
  unfold State.regulateToward
  dsimp only
  cases m.partner <;> simp
@[simp] theorem State.regulateToward_monitor (s : State) (st : Stage) (h : Handle) (c : Claim) (m : StageMap) (r : BaseRecord)
    (o : Option OptionalRecord) (d : Int) (x y : StageSample) : (s.regulateToward st h c m r o d x y).monitor = s.monitor := by
  unfold State.regulateToward
  dsimp only
  cases m.partner <;> simp
@[simp] theorem State.regulateToward_inputs (s : State) (st : Stage) (h : Handle) (c : Claim) (m : StageMap) (r : BaseRecord)
    (o : Option OptionalRecord) (d : Int) (x y : StageSample) : (s.regulateToward st h c m r o d x y).inputs = s.inputs := by
  unfold State.regulateToward
  dsimp only
  cases m.partner <;> simp
@[simp] theorem State.regulateToward_pending (s : State) (st : Stage) (h : Handle) (c : Claim) (m : StageMap) (r : BaseRecord)
    (o : Option OptionalRecord) (d : Int) (x y : StageSample) : (s.regulateToward st h c m r o d x y).pending = s.pending := by
  unfold State.regulateToward
  dsimp only
  cases m.partner <;> simp

@[simp] theorem State.rampAndRegulate_memory (s : State) (st : Stage) (h : Handle) (c : Claim) (m : StageMap) (r : BaseRecord)
    (o : Option OptionalRecord) (x y : StageSample) : (s.rampAndRegulate st h c m r o x y).memory = s.memory := by
  unfold State.rampAndRegulate
  split
  · dsimp only
    split <;> simp
  · simp
@[simp] theorem State.rampAndRegulate_claims (s : State) (st : Stage) (h : Handle) (c : Claim) (m : StageMap) (r : BaseRecord)
    (o : Option OptionalRecord) (x y : StageSample) : (s.rampAndRegulate st h c m r o x y).claims = s.claims := by
  unfold State.rampAndRegulate
  split
  · dsimp only
    split <;> simp
  · simp
@[simp] theorem State.rampAndRegulate_table (s : State) (st : Stage) (h : Handle) (c : Claim) (m : StageMap) (r : BaseRecord)
    (o : Option OptionalRecord) (x y : StageSample) : (s.rampAndRegulate st h c m r o x y).table = s.table := by
  unfold State.rampAndRegulate
  split
  · dsimp only
    split <;> simp
  · simp
@[simp] theorem State.rampAndRegulate_passes (s : State) (st : Stage) (h : Handle) (c : Claim) (m : StageMap) (r : BaseRecord)
    (o : Option OptionalRecord) (x y : StageSample) : (s.rampAndRegulate st h c m r o x y).passes = s.passes := by
  unfold State.rampAndRegulate
  split
  · dsimp only
    split <;> simp
  · simp
@[simp] theorem State.rampAndRegulate_monitor (s : State) (st : Stage) (h : Handle) (c : Claim) (m : StageMap) (r : BaseRecord)
    (o : Option OptionalRecord) (x y : StageSample) : (s.rampAndRegulate st h c m r o x y).monitor = s.monitor := by
  unfold State.rampAndRegulate
  split
  · dsimp only
    split <;> simp
  · simp
@[simp] theorem State.rampAndRegulate_inputs (s : State) (st : Stage) (h : Handle) (c : Claim) (m : StageMap) (r : BaseRecord)
    (o : Option OptionalRecord) (x y : StageSample) : (s.rampAndRegulate st h c m r o x y).inputs = s.inputs := by
  unfold State.rampAndRegulate
  split
  · dsimp only
    split <;> simp
  · simp
@[simp] theorem State.rampAndRegulate_pending (s : State) (st : Stage) (h : Handle) (c : Claim) (m : StageMap) (r : BaseRecord)
    (o : Option OptionalRecord) (x y : StageSample) : (s.rampAndRegulate st h c m r o x y).pending = s.pending := by
  unfold State.rampAndRegulate
  split
  · dsimp only
    split <;> simp
  · simp

@[simp] theorem State.balanceAndRegulate_memory (s : State) (st : Stage) (h : Handle) (c : Claim) (m : StageMap) (r : BaseRecord)
    (o : Option OptionalRecord) (x y : StageSample) : (s.balanceAndRegulate st h c m r o x y).memory = s.memory := by
  unfold State.balanceAndRegulate
  split
  · dsimp only
    split <;> simp
  · simp
  · simp
@[simp] theorem State.balanceAndRegulate_claims (s : State) (st : Stage) (h : Handle) (c : Claim) (m : StageMap) (r : BaseRecord)
    (o : Option OptionalRecord) (x y : StageSample) : (s.balanceAndRegulate st h c m r o x y).claims = s.claims := by
  unfold State.balanceAndRegulate
  split
  · dsimp only
    split <;> simp
  · simp
  · simp
@[simp] theorem State.balanceAndRegulate_table (s : State) (st : Stage) (h : Handle) (c : Claim) (m : StageMap) (r : BaseRecord)
    (o : Option OptionalRecord) (x y : StageSample) : (s.balanceAndRegulate st h c m r o x y).table = s.table := by
  unfold State.balanceAndRegulate
  split
  · dsimp only
    split <;> simp
  · simp
  · simp
@[simp] theorem State.balanceAndRegulate_passes (s : State) (st : Stage) (h : Handle) (c : Claim) (m : StageMap) (r : BaseRecord)
    (o : Option OptionalRecord) (x y : StageSample) : (s.balanceAndRegulate st h c m r o x y).passes = s.passes := by
  unfold State.balanceAndRegulate
  split
  · dsimp only
    split <;> simp
  · simp
  · simp
@[simp] theorem State.balanceAndRegulate_monitor (s : State) (st : Stage) (h : Handle) (c : Claim) (m : StageMap) (r : BaseRecord)
    (o : Option OptionalRecord) (x y : StageSample) : (s.balanceAndRegulate st h c m r o x y).monitor = s.monitor := by
  unfold State.balanceAndRegulate
  split
  · dsimp only
    split <;> simp
  · simp
  · simp
@[simp] theorem State.balanceAndRegulate_inputs (s : State) (st : Stage) (h : Handle) (c : Claim) (m : StageMap) (r : BaseRecord)
    (o : Option OptionalRecord) (x y : StageSample) : (s.balanceAndRegulate st h c m r o x y).inputs = s.inputs := by
  unfold State.balanceAndRegulate
  split
  · dsimp only
    split <;> simp
  · simp
  · simp
@[simp] theorem State.balanceAndRegulate_pending (s : State) (st : Stage) (h : Handle) (c : Claim) (m : StageMap) (r : BaseRecord)
    (o : Option OptionalRecord) (x y : StageSample) : (s.balanceAndRegulate st h c m r o x y).pending = s.pending := by
  unfold State.balanceAndRegulate
  split
  · dsimp only
    split <;> simp
  · simp
  · simp

/-- A part found lost at a channel's read: the gates and the report first, then the claim is LOST and TRIPPED. -/
theorem State.channelFindsLost_eq (s : State) (st : Stage) (h : Handle) (m : StageMap) (hb : (s.claim h).state.bound = true) :
    s.channelFindsLost st h m
      = ((s.channelTrip st h m .recordLost).setClaim h { s.claim h with condition := some .lost }).enterTripped h
          .recordLost := by
  have e : (s.channelTrip st h m .recordLost).claim h = s.claim h := by simp [State.claim]
  simp [State.channelFindsLost, State.recordLost, e, hb]

@[simp] theorem State.channelFindsLost_memory (s : State) (st : Stage) (h : Handle) (m : StageMap) : (s.channelFindsLost st h m).memory = s.memory := by
  simp [State.channelFindsLost]
@[simp] theorem State.channelFindsLost_table (s : State) (st : Stage) (h : Handle) (m : StageMap) : (s.channelFindsLost st h m).table = s.table := by
  simp [State.channelFindsLost]
@[simp] theorem State.channelFindsLost_monitor (s : State) (st : Stage) (h : Handle) (m : StageMap) : (s.channelFindsLost st h m).monitor = s.monitor := by
  simp [State.channelFindsLost]
@[simp] theorem State.channelFindsLost_inputs (s : State) (st : Stage) (h : Handle) (m : StageMap) : (s.channelFindsLost st h m).inputs = s.inputs := by
  simp [State.channelFindsLost]
@[simp] theorem State.channelFindsLost_pending (s : State) (st : Stage) (h : Handle) (m : StageMap) : (s.channelFindsLost st h m).pending = s.pending := by
  simp [State.channelFindsLost]

@[simp] theorem State.regulate_table (s : State) (st : Stage) (h : Handle) (x y : StageSample) : (s.regulate st h x y).table = s.table := by
  unfold State.regulate
  dsimp only
  split
  · rfl
  · rename_i m hm
    have e := s.readRecords_table h m.cls
    split
    · split
      · simp_all
      · split <;> simp_all
    · rfl
@[simp] theorem State.regulate_monitor (s : State) (st : Stage) (h : Handle) (x y : StageSample) : (s.regulate st h x y).monitor = s.monitor := by
  unfold State.regulate
  dsimp only
  split
  · rfl
  · rename_i m hm
    have e := s.readRecords_monitor h m.cls
    split
    · split
      · simp_all
      · split <;> simp_all
    · rfl
@[simp] theorem State.regulate_inputs (s : State) (st : Stage) (h : Handle) (x y : StageSample) : (s.regulate st h x y).inputs = s.inputs := by
  unfold State.regulate
  dsimp only
  split
  · rfl
  · rename_i m hm
    have e := s.readRecords_inputs h m.cls
    split
    · split
      · simp_all
      · split <;> simp_all
    · rfl
@[simp] theorem State.regulate_pending (s : State) (st : Stage) (h : Handle) (x y : StageSample) : (s.regulate st h x y).pending = s.pending := by
  unfold State.regulate
  dsimp only
  split
  · rfl
  · rename_i m hm
    have e := s.readRecords_pending h m.cls
    split
    · split
      · simp_all
      · split <;> simp_all
    · rfl

@[simp] theorem State.expire_table (s : State) (st : Stage) (x y : StageSample) : (s.expire st x y).table = s.table := by
  unfold State.expire
  dsimp only
  split
  · rfl
  · split
    · rfl
    · split
      · rfl
      · split <;> simp
@[simp] theorem State.expire_monitor (s : State) (st : Stage) (x y : StageSample) : (s.expire st x y).monitor = s.monitor := by
  unfold State.expire
  dsimp only
  split
  · rfl
  · split
    · rfl
    · split
      · rfl
      · split <;> simp
@[simp] theorem State.expire_inputs (s : State) (st : Stage) (x y : StageSample) : (s.expire st x y).inputs = s.inputs := by
  unfold State.expire
  dsimp only
  split
  · rfl
  · split
    · rfl
    · split
      · rfl
      · split <;> simp
@[simp] theorem State.expire_pending (s : State) (st : Stage) (x y : StageSample) : (s.expire st x y).pending = s.pending := by
  unfold State.expire
  dsimp only
  split
  · rfl
  · split
    · rfl
    · split
      · rfl
      · split <;> simp

@[simp] theorem State.takeTrip_table (s : State) (r : Report) : (s.takeTrip r).table = s.table := by
  unfold State.takeTrip
  split
  · split <;> simp
  · rfl
@[simp] theorem State.takeTrip_memory (s : State) (r : Report) : (s.takeTrip r).memory = s.memory := by
  unfold State.takeTrip
  split
  · split <;> simp
  · rfl
@[simp] theorem State.takeTrip_monitor (s : State) (r : Report) : (s.takeTrip r).monitor = s.monitor := by
  unfold State.takeTrip
  split
  · split <;> simp
  · rfl
@[simp] theorem State.takeTrip_inputs (s : State) (r : Report) : (s.takeTrip r).inputs = s.inputs := by
  unfold State.takeTrip
  split
  · split <;> simp
  · rfl
@[simp] theorem State.takeTrip_pending (s : State) (r : Report) : (s.takeTrip r).pending = s.pending := by
  unfold State.takeTrip
  split
  · split <;> simp
  · rfl

/-- The oldest report of a stage that `p` selects, and the reports about it. -/
theorem takeFirst_eq_some (st : Stage) (p : ReportKind → Bool) (rs rest : List Report) (r : Report) :
    takeFirst st p rs = some (r, rest) ↔
      ∃ before behind, rs = before ++ r :: behind ∧ rest = before ++ behind ∧ (r.stage == st && p r.kind) = true
        ∧ ∀ x ∈ before, (x.stage == st && p x.kind) = false := by
  induction rs generalizing rest with
  | nil => simp [takeFirst]
  | cons x xs ih =>
    unfold takeFirst
    split
    · rename_i hx
      constructor
      · rintro h
        simp only [Option.some.injEq, Prod.mk.injEq] at h
        obtain ⟨rfl, rfl⟩ := h
        exact ⟨[], xs, rfl, rfl, hx, by simp⟩
      · rintro ⟨_ | ⟨y, ys⟩, behind, h, rfl, hr, hb⟩
        · simp only [List.nil_append, List.cons.injEq] at h
          simp [h]
        · simp only [List.cons_append, List.cons.injEq] at h
          have := hb x (by simp [h.1])
          simp_all
    · rename_i hx
      simp only [Option.map_eq_some_iff, Prod.exists, Prod.mk.injEq]
      constructor
      · rintro ⟨y, others, h, rfl, rfl⟩
        obtain ⟨before, behind, rfl, rfl, hr, hb⟩ := (ih others).1 h
        exact ⟨x :: before, behind, rfl, rfl, hr, by simp_all⟩
      · rintro ⟨_ | ⟨y, ys⟩, behind, h, rfl, hr, hb⟩
        · simp only [List.nil_append, List.cons.injEq] at h
          simp_all
        · simp only [List.cons_append, List.cons.injEq] at h
          obtain ⟨rfl, rfl⟩ := h
          exact ⟨r, ys ++ behind, (ih _).2 ⟨ys, behind, rfl, rfl, hr, fun z hz => hb z (by simp [hz])⟩, rfl, rfl⟩

/-- No report of a stage that `p` selects is under way. -/
theorem takeFirst_eq_none (st : Stage) (p : ReportKind → Bool) (rs : List Report) :
    takeFirst st p rs = none ↔ ∀ x ∈ rs, (x.stage == st && p x.kind) = false := by
  induction rs with
  | nil => simp [takeFirst]
  | cons x xs ih =>
    unfold takeFirst
    split <;> simp_all

/-! ### The supply, timers and protective inputs -/

@[simp] theorem State.supplyNormal_channels (s : State) (d r : Nat) : (s.supplyNormal d r).channels = s.channels := by
  simp [State.supplyNormal]
@[simp] theorem State.supplyNormal_reports (s : State) (d r : Nat) : (s.supplyNormal d r).reports = s.reports := by
  simp [State.supplyNormal]
@[simp] theorem State.supplyNormal_monitor (s : State) (d r : Nat) : (s.supplyNormal d r).monitor = s.monitor := by
  simp [State.supplyNormal]
@[simp] theorem State.supplyNormal_inputs (s : State) (d r : Nat) : (s.supplyNormal d r).inputs = s.inputs := by
  simp [State.supplyNormal]
@[simp] theorem State.supplyNormal_pending (s : State) (d r : Nat) : (s.supplyNormal d r).pending = s.pending := by
  simp [State.supplyNormal]

@[simp] theorem State.faultVerdict_inputs (s : State) (x : SupplyReason) (d r : Nat) : (s.faultVerdict x d r).inputs = s.inputs := by
  unfold State.faultVerdict
  split
  · simp
  · simp
  · split <;> simp
@[simp] theorem State.faultVerdict_pending (s : State) (x : SupplyReason) (d r : Nat) : (s.faultVerdict x d r).pending = s.pending := by
  unfold State.faultVerdict
  split
  · simp
  · simp
  · split <;> simp

@[simp] theorem State.normalVerdict_channels (s : State) (f : SupplyFields) (b : Bool) : (s.normalVerdict f b).channels = s.channels := by
  unfold State.normalVerdict
  split
  · simp
  · simp
  · split <;> simp
@[simp] theorem State.normalVerdict_reports (s : State) (f : SupplyFields) (b : Bool) : (s.normalVerdict f b).reports = s.reports := by
  unfold State.normalVerdict
  split
  · simp
  · simp
  · split <;> simp
@[simp] theorem State.normalVerdict_inputs (s : State) (f : SupplyFields) (b : Bool) : (s.normalVerdict f b).inputs = s.inputs := by
  unfold State.normalVerdict
  split
  · simp
  · simp
  · split <;> simp
@[simp] theorem State.normalVerdict_pending (s : State) (f : SupplyFields) (b : Bool) : (s.normalVerdict f b).pending = s.pending := by
  unfold State.normalVerdict
  split
  · simp
  · simp
  · split <;> simp

@[simp] theorem State.goodSupplyFrame_inputs (s : State) (f : SupplyFields) : (s.goodSupplyFrame f).inputs = s.inputs := by
  unfold State.goodSupplyFrame
  split
  · simp
  · dsimp only
    split
    · simp
    · split <;> simp
@[simp] theorem State.goodSupplyFrame_pending (s : State) (f : SupplyFields) : (s.goodSupplyFrame f).pending = s.pending := by
  unfold State.goodSupplyFrame
  split
  · simp
  · dsimp only
    split
    · simp
    · split <;> simp

@[simp] theorem State.supplyTimesOut_inputs (s : State) : (s.supplyTimesOut).inputs = s.inputs := by
  simp [State.supplyTimesOut]
@[simp] theorem State.supplyTimesOut_pending (s : State) : (s.supplyTimesOut).pending = s.pending := by
  simp [State.supplyTimesOut]

@[simp] theorem State.enterStale_table (s : State) (h : Handle) : (s.enterStale h).table = s.table := by
  have e := s.tableRead_table h
  unfold State.enterStale
  split <;> simp_all
@[simp] theorem State.enterStale_monitor (s : State) (h : Handle) : (s.enterStale h).monitor = s.monitor := by
  have e := s.tableRead_monitor h
  unfold State.enterStale
  split <;> simp_all
@[simp] theorem State.enterStale_inputs (s : State) (h : Handle) : (s.enterStale h).inputs = s.inputs := by
  have e := s.tableRead_inputs h
  unfold State.enterStale
  split <;> simp_all
@[simp] theorem State.enterStale_pending (s : State) (h : Handle) : (s.enterStale h).pending = s.pending := by
  have e := s.tableRead_pending h
  unfold State.enterStale
  split <;> simp_all

@[simp] theorem State.tripAll_pending (s : State) : s.tripAll.pending = s.pending := by
  unfold State.tripAll
  generalize Handle.all = hs
  induction hs generalizing s with
  | nil => rfl
  | cons h hs ih => simp [ih]

@[simp] theorem State.upset_pending (s : State) (t : UpsetTarget) (c : CopyName) : (s.upset t c).pending = s.pending := by
  unfold State.upset
  split
  · simp
  · simp
  · split
    · rfl
    · split <;> simp
  · rfl

/-! ### Fast verbs -/

@[simp] theorem State.applyDemand_table (s : State) (h : Handle) (d : DemandFields) : (s.applyDemand h d).table = s.table := by
  unfold State.applyDemand
  dsimp only
  split
  · simp
  · rename_i hne
    generalize hs : s.setClaim h _ = u
    have e := u.tableRead_table h
    have e' : u.table = s.table := by rw [← hs]; simp
    split <;> simp_all
@[simp] theorem State.applyDemand_monitor (s : State) (h : Handle) (d : DemandFields) : (s.applyDemand h d).monitor = s.monitor := by
  unfold State.applyDemand
  dsimp only
  split
  · simp
  · rename_i hne
    generalize hs : s.setClaim h _ = u
    have e := u.tableRead_monitor h
    have e' : u.monitor = s.monitor := by rw [← hs]; simp
    split <;> simp_all
@[simp] theorem State.applyDemand_inputs (s : State) (h : Handle) (d : DemandFields) : (s.applyDemand h d).inputs = s.inputs := by
  unfold State.applyDemand
  dsimp only
  split
  · simp
  · rename_i hne
    generalize hs : s.setClaim h _ = u
    have e := u.tableRead_inputs h
    have e' : u.inputs = s.inputs := by rw [← hs]; simp
    split <;> simp_all
@[simp] theorem State.applyDemand_pending (s : State) (h : Handle) (d : DemandFields) : (s.applyDemand h d).pending = s.pending := by
  unfold State.applyDemand
  dsimp only
  split
  · simp
  · rename_i hne
    generalize hs : s.setClaim h _ = u
    have e := u.tableRead_pending h
    have e' : u.pending = s.pending := by rw [← hs]; simp
    split <;> simp_all

@[simp] theorem cycleEntry_table (s : State) (e : CycleEntry) : (cycleEntry s e).table = s.table := by
  unfold cycleEntry
  split <;> simp
@[simp] theorem cycleEntry_monitor (s : State) (e : CycleEntry) : (cycleEntry s e).monitor = s.monitor := by
  unfold cycleEntry
  split <;> simp
@[simp] theorem cycleEntry_inputs (s : State) (e : CycleEntry) : (cycleEntry s e).inputs = s.inputs := by
  unfold cycleEntry
  split <;> simp
@[simp] theorem cycleEntry_pending (s : State) (e : CycleEntry) : (cycleEntry s e).pending = s.pending := by
  unfold cycleEntry
  split <;> simp

@[simp] theorem cycleAtTable_table (s : State) (es : List CycleEntry) : (cycleAtTable s es).table = s.table := by
  unfold cycleAtTable
  induction es generalizing s with
  | nil => rfl
  | cons e es ih => simp [ih]
@[simp] theorem cycleAtTable_monitor (s : State) (es : List CycleEntry) : (cycleAtTable s es).monitor = s.monitor := by
  unfold cycleAtTable
  induction es generalizing s with
  | nil => rfl
  | cons e es ih => simp [ih]
@[simp] theorem cycleAtTable_inputs (s : State) (es : List CycleEntry) : (cycleAtTable s es).inputs = s.inputs := by
  unfold cycleAtTable
  induction es generalizing s with
  | nil => rfl
  | cons e es ih => simp [ih]
@[simp] theorem cycleAtTable_pending (s : State) (es : List CycleEntry) : (cycleAtTable s es).pending = s.pending := by
  unfold cycleAtTable
  induction es generalizing s with
  | nil => rfl
  | cons e es ih => simp [ih]

@[simp] theorem State.clearShortfall_link (s : State) (h : Handle) : (s.clearShortfall h).link = s.link := by
  unfold State.clearShortfall
  split <;> simp
@[simp] theorem State.clearShortfall_claims (s : State) (h : Handle) : (s.clearShortfall h).claims = s.claims := by
  unfold State.clearShortfall
  split <;> simp
@[simp] theorem State.clearShortfall_table (s : State) (h : Handle) : (s.clearShortfall h).table = s.table := by
  unfold State.clearShortfall
  split <;> simp
@[simp] theorem State.clearShortfall_passes (s : State) (h : Handle) : (s.clearShortfall h).passes = s.passes := by
  unfold State.clearShortfall
  split <;> simp
@[simp] theorem State.clearShortfall_memory (s : State) (h : Handle) : (s.clearShortfall h).memory = s.memory := by
  unfold State.clearShortfall
  split <;> simp
@[simp] theorem State.clearShortfall_reports (s : State) (h : Handle) : (s.clearShortfall h).reports = s.reports := by
  unfold State.clearShortfall
  split <;> simp
@[simp] theorem State.clearShortfall_monitor (s : State) (h : Handle) : (s.clearShortfall h).monitor = s.monitor := by
  unfold State.clearShortfall
  split <;> simp
@[simp] theorem State.clearShortfall_inputs (s : State) (h : Handle) : (s.clearShortfall h).inputs = s.inputs := by
  unfold State.clearShortfall
  split <;> simp
@[simp] theorem State.clearShortfall_pending (s : State) (h : Handle) : (s.clearShortfall h).pending = s.pending := by
  unfold State.clearShortfall
  split <;> simp

@[simp] theorem statusRead_channels (s : State) (acc : List (Option Nat)) (depth : Nat) : ((statusRead (acc, s) depth).2).channels = s.channels := by
  have e := s.readEnvelopeAndRecompute_channels depth
  unfold statusRead
  dsimp only
  split <;> simp_all
@[simp] theorem statusRead_reports (s : State) (acc : List (Option Nat)) (depth : Nat) : ((statusRead (acc, s) depth).2).reports = s.reports := by
  have e := s.readEnvelopeAndRecompute_reports depth
  unfold statusRead
  dsimp only
  split <;> simp_all
@[simp] theorem statusRead_monitor (s : State) (acc : List (Option Nat)) (depth : Nat) : ((statusRead (acc, s) depth).2).monitor = s.monitor := by
  have e := s.readEnvelopeAndRecompute_monitor depth
  unfold statusRead
  dsimp only
  split <;> simp_all
@[simp] theorem statusRead_inputs (s : State) (acc : List (Option Nat)) (depth : Nat) : ((statusRead (acc, s) depth).2).inputs = s.inputs := by
  have e := s.readEnvelopeAndRecompute_inputs depth
  unfold statusRead
  dsimp only
  split <;> simp_all
@[simp] theorem statusRead_pending (s : State) (acc : List (Option Nat)) (depth : Nat) : ((statusRead (acc, s) depth).2).pending = s.pending := by
  have e := s.readEnvelopeAndRecompute_pending depth
  unfold statusRead
  dsimp only
  split <;> simp_all

@[simp] theorem statusReads_channels (s : State) (acc : List (Option Nat)) (ds : List Nat) : ((ds.foldl statusRead (acc, s)).2).channels = s.channels := by
  induction ds generalizing s acc with
  | nil => rfl
  | cons d ds ih =>
    rw [List.foldl_cons, show statusRead (acc, s) d = ((statusRead (acc, s) d).1, (statusRead (acc, s) d).2) from rfl, ih]
    simp
@[simp] theorem statusReads_reports (s : State) (acc : List (Option Nat)) (ds : List Nat) : ((ds.foldl statusRead (acc, s)).2).reports = s.reports := by
  induction ds generalizing s acc with
  | nil => rfl
  | cons d ds ih =>
    rw [List.foldl_cons, show statusRead (acc, s) d = ((statusRead (acc, s) d).1, (statusRead (acc, s) d).2) from rfl, ih]
    simp
@[simp] theorem statusReads_monitor (s : State) (acc : List (Option Nat)) (ds : List Nat) : ((ds.foldl statusRead (acc, s)).2).monitor = s.monitor := by
  induction ds generalizing s acc with
  | nil => rfl
  | cons d ds ih =>
    rw [List.foldl_cons, show statusRead (acc, s) d = ((statusRead (acc, s) d).1, (statusRead (acc, s) d).2) from rfl, ih]
    simp
@[simp] theorem statusReads_inputs (s : State) (acc : List (Option Nat)) (ds : List Nat) : ((ds.foldl statusRead (acc, s)).2).inputs = s.inputs := by
  induction ds generalizing s acc with
  | nil => rfl
  | cons d ds ih =>
    rw [List.foldl_cons, show statusRead (acc, s) d = ((statusRead (acc, s) d).1, (statusRead (acc, s) d).2) from rfl, ih]
    simp
@[simp] theorem statusReads_pending (s : State) (acc : List (Option Nat)) (ds : List Nat) : ((ds.foldl statusRead (acc, s)).2).pending = s.pending := by
  induction ds generalizing s acc with
  | nil => rfl
  | cons d ds ih =>
    rw [List.foldl_cons, show statusRead (acc, s) d = ((statusRead (acc, s) d).1, (statusRead (acc, s) d).2) from rfl, ih]
    simp

end Sys2Proof.Machine
end

