-- ==== Sys2Proof/WellFormed.lean ====
section
/-! DEFINITION. Well-formed commands: what a sender can put in front of the part under that row's name. `exec` gives every
command a meaning; these checks say which constructor an event belongs to and which operands can arise on the line. -/

namespace Sys2Proof

/-- A gap that can stand before a frame (R161: an idle of at least 2 µs). -/
def gapOk (gapNs : Nat) : Bool := decide (Config.frameIdleNs ≤ gapNs)

/-- A frame that belongs to a verb's row: a possible gap and a good header (a bad one belongs to HEADER_ERROR). -/
def Frame.wellFormed (f : Frame) (code : BitVec 5) : Bool := gapOk f.gapNs && (f.withCode code).goodHeader.isSome

/-- Well-formed commands, row by row. -/
def Instr.wellFormed : Instr → Bool
  | .powerOnReset _ => true
  | .demand f => f.wellFormed Machine.Verb.demand.code
  | .cycle f => f.wellFormed Machine.Verb.cycle.code
  | .stop f => f.wellFormed Machine.Verb.stop.code
  | .lookup f => f.wellFormed Machine.Verb.lookup.code
  | .status f => f.wellFormed Machine.Verb.status.code
  | .readNotice f => f.wellFormed Machine.Verb.readNotice.code
  | .configure f => f.wellFormed Machine.Verb.configure.code
  | .resetLink f => f.wellFormed Machine.Verb.resetLink.code
  | .bind f => f.wellFormed Machine.Verb.bind.code
  | .modify f => f.wellFormed Machine.Verb.modify.code
  | .retire f => f.wellFormed Machine.Verb.retire.code
  | .resume f => f.wellFormed Machine.Verb.resume.code
  | .push f => f.wellFormed Machine.Verb.push.code
  | .pop f => f.wellFormed Machine.Verb.pop.code
  | .headerError f => gapOk f.gapNs && !f.chars.isEmpty && f.toPort.goodHeader.isNone
  | .unknownVerb code f => (Machine.Verb.ofCode code).isNone && f.wellFormed code
  | .passedOverFrame f => gapOk f.gapNs && !f.chars.isEmpty
  | .bindTaken => true
  | .modifyTaken => true
  | .retireTaken => true
  | .resumeTaken => true
  | .pushTaken => true
  | .popTaken => true
  | .passStart => true
  | .passCompletion => true
  | .refreshTimerExpiry _ => true
  | .brakeTimerExpiry _ => true
  | .regulationExpiry _ _ _ => true
  | .tripReport _ => true
  | .releaseCompletion _ => true
  | .stageFaultAsserted _ => true
  | .stageFaultReleased _ => true
  | .safeOffAsserted => true
  | .safeOffReleased => true
  | .supplyFrame chars => !chars.isEmpty
  | .supplyTimeoutExpiry => true
  | .cellUpset (.envelope depth) _ => decide (1 ≤ depth ∧ depth ≤ Config.stackPlaces)
  | .cellUpset (.base _) _ => true
  | .cellUpset (.optional _) _ => true
  | .cellUpset .freeCell _ => true

end Sys2Proof
end

