-- ==== Sys2Proof/Tests/Slice0.lean ====
section
/-! SUPPORT. Tests: the checks of well-formedness, figures of the manual's worked sequences, one step at a time, and for
every statement with hypotheses a state and operands that meet them (`test_hyp_<statement>`). -/

namespace Sys2Proof.Tests

set_option Elab.async false

open Sys2Proof Sys2Proof.Machine

/-! ### Small states and frames -/

/-- The state after a command. -/
def after (c : Instr) (s : State) : State :=
  match exec c s with
  | .next t => t
  | .fault _ => s
  | .refused _ => s

/-- A frame as a sender lays it out, 10 µs after the frame before. -/
def frameOf (code : BitVec 5) (station : BitVec 3) (handle : BitVec 4) (urgent : Bool) (p : List Octet) : Frame :=
  let c := headerCheckOf station code handle urgent
  ⟨10000, false, station, handle, urgent, c, false,
    clean (p ++ wordOctets (frameCheck (Header.octets ⟨station, code, handle, urgent, c⟩ ++ p)))⟩

/-- A frame of a verb. -/
def frame (v : Verb) (station : BitVec 3) (handle : BitVec 4) (urgent : Bool) (p : List Octet) : Frame :=
  frameOf v.code station handle urgent p

/-- A base part with the figures the worked sequences share. -/
def record (cls : ClaimClass) (level floor limit trip : Nat) : BaseRecord where
  cls := cls
  level := level
  floor := floor
  currentLimit := limit
  tripLevel := trip
  holdDemand := 350
  refreshWindow := 8
  releaseStep := 25
  brakeTime := 40
  kp := 512
  ki := 256
  integratorLimit := 400
  motoring := [300, 0, 800, 0, 0, 600, 0, 520]
  regenerating := [150, 0, 0, 0, 0, 450, 0, 0]
  flags := ⟨true, false, true⟩

/-- The ram axis on stage 2, the gantry on stages 0 and 1, and the spindle on stage 4. -/
def ram : BindFields := ⟨2, record .axis 1 120 1000 1500, none⟩
def gantry : BindFields := ⟨0, record .pair 1 100 1000 1500, some (.pair 1 150 3)⟩
def spindle : BindFields := ⟨4, record .spindle 3 60 1800 2200, some (.weakening 4 [1400, 1100, 900, 750])⟩

/-- A part that is READY with G = 300 and the supply NORMAL, no claim bound. -/
def ready : State := { State.reset with
  table := ⟨.ready, 300, 0, [⟨Part.written ⟨0, 1600, 1000, 7⟩, .intact⟩], ⟨1400, 1000, some 7⟩, ⟨.normal, 1400, 1200⟩, false⟩
  memory := { State.reset.memory with free := 31 }
  monitor := ⟨.normal, some .recovered, 1400, 1200, true, 300, some 5, .running 5, 0⟩ }

/-- A claim bound, no pass wanted. -/
def binding (s : State) (h : Handle) (b : BindFields) : State := { s.createClaim h b with passes := s.passes }

/-- An entry, a channel, the port or the pass flags changed. -/
def entry (s : State) (h : Handle) (f : Claim → Claim) : State := s.setClaim h (f (s.claim h))
def port (s : State) (f : LinkPort → LinkPort) : State := { s with link := f s.link }
def flags (s : State) (f : PassBook → PassBook) : State := { s with passes := f s.passes }

/-- A request at the head of the normal queue, or of the urgent one. -/
def waiting (s : State) (r : Request) : State := port s (fun l => { l with normal := [r] })
def pressing (s : State) (r : Request) : State := port s (fun l => { l with urgent := [r] })

/-- Every copy of the base part of a handle bad. -/
def spoilt (s : State) (h : Handle) : State := (s.upset (.base h) .primary).upset (.base h) .shadow

/-- The ram bound at handle 3, the gantry at 1, the spindle at 0. -/
def withRam : State := binding ready 3 ram
def withGantry : State := binding ready 1 gantry
def withSpindle : State := binding ready 0 spindle

/-- A sample of one stage: the three phase currents below every trip level, and the torque current. -/
def sample (torque : Int) : StageSample := ⟨100, -60, -40, 77, torque⟩

/-! ### Well-formed commands -/

theorem test_wellFormed_accepts :
    (Instr.demand (frame .demand 1 3 false [])).wellFormed = true ∧ (Instr.headerError ⟨2000, false, clean [0x21]⟩).wellFormed = true
      ∧ (Instr.unknownVerb 0 { frame .demand 1 3 false [] with headerCheck := 3 }).wellFormed = true
      ∧ (Instr.passedOverFrame ⟨2000, false, clean [0x44, 0x02]⟩).wellFormed = true
      ∧ (Instr.supplyFrame (clean [0])).wellFormed = true ∧ (Instr.cellUpset (.envelope 8) .primary).wellFormed = true := by
  decide +kernel

/-- A frame needs an idle of 2 µs before it, a header without character fault and a header check that agrees. -/
theorem test_wellFormed_refuses_frames :
    (Instr.demand { frame .demand 1 3 false [] with gapNs := 1999 }).wellFormed = false
      ∧ (Instr.stop { frame .stop 1 3 false [] with headerFaulted := true }).wellFormed = false
      ∧ (Instr.bind { frame .bind 1 3 false [] with headerCheck := 0 }).wellFormed = false
      ∧ (Instr.unknownVerb 0x01 (frame .demand 1 3 false [])).wellFormed = false
      ∧ (Instr.unknownVerb 0 (frame .demand 1 3 false [])).wellFormed = false := by
  decide +kernel

/-- The same for bare characters, which must be some, and for HEADER_ERROR hold no good header. -/
theorem test_wellFormed_refuses_characters :
    (Instr.headerError ⟨1999, false, clean [0x21]⟩).wellFormed = false ∧ (Instr.headerError ⟨2000, false, []⟩).wellFormed = false
      ∧ (Instr.headerError ⟨2000, false, clean [0x21, 0x34]⟩).wellFormed = false
      ∧ (Instr.passedOverFrame ⟨1999, false, clean [0x44, 0x02]⟩).wellFormed = false
      ∧ (Instr.passedOverFrame ⟨2000, false, []⟩).wellFormed = false ∧ (Instr.supplyFrame []).wellFormed = false
      ∧ (Instr.cellUpset (.envelope 0) .primary).wellFormed = false
      ∧ (Instr.cellUpset (.envelope 9) .shadow).wellFormed = false := by
  decide +kernel

/-! ### Octets on the line (R163, R165, 9.10) -/

/-- The check of the nine digits is 29B1, and the two headers of chapter 9 are 21 34 and 34 0C. -/
theorem test_check_and_headers :
    frameCheck [0x31, 0x32, 0x33, 0x34, 0x35, 0x36, 0x37, 0x38, 0x39] = 0x29B1#16
      ∧ Header.octets ⟨1, Verb.demand.code, 3, false, headerCheckOf 1 Verb.demand.code 3 false⟩ = [0x21, 0x34]
      ∧ Header.octets ⟨1, Verb.push.code, 0, true, headerCheckOf 1 Verb.push.code 0 true⟩ = [0x34, 0x0C]
      ∧ Header.octets ⟨1, Verb.resetLink.code, 0, false, headerCheckOf 1 Verb.resetLink.code 0 false⟩ = [0x28, 0x02] := by
  decide +kernel

/-- The verb codes of 9.10.1 and the payload of DEMAND +420, STILL, band 0. -/
theorem test_verb_codes_and_demand_payload :
    Verb.all.map (fun v => v.code.toNat) = [1, 2, 3, 4, 5, 6, 7, 8, 16, 17, 18, 19, 20, 21]
      ∧ (⟨420, .still, 0⟩ : DemandFields).octets = [0x01, 0xA4, 0x00]
      ∧ (⟨-400, .fwd, 5⟩ : DemandFields).octets = [0xFE, 0x70, 0x15] := by
  decide +kernel

/-! ### Frames refused in order (chapter 9): station 1 -/

/-- The part READY at station 1. -/
def station1 : State := port ready (fun l => { l with station := 1 })

theorem test_header_error : (after (.headerError ⟨10000, false, clean [0x21, 0x3C, 0, 0]⟩) station1).link.headerErrors = 1 := by
  decide +kernel

theorem test_passed_over_then_reply :
    let t := after (.passedOverFrame ⟨10000, false, clean [0x44, 0x02, 0, 0]⟩) station1
    t.link.replyExpected = true ∧ (after (.passedOverFrame ⟨3000, false, clean [0x25]⟩) t) = station1 := by
  decide +kernel

/-- While the port sends the reply to a STATUS, a RESET-LINK is lost to it; after the reply it is taken. -/
theorem test_frame_during_own_reply :
    let t := after (.status (frame .status 1 0 false [])) (port station1 (fun l => { l with headerErrors := 1 }))
    let f := frame .resetLink 1 0 false []
    t.link.driverOn = true ∧ after (.resetLink { f with duringReply := true }) t = t
      ∧ (after (.resetLink f) t).link.headerErrors = 0
      ∧ (after (.resetLink { f with station := 7, headerCheck := 5 }) t).link.driverOn = false := by
  decide +kernel

theorem test_status_with_damaged_check :
    let f := frame .status 1 0 false []
    let t := after (.status { f with body := clean [0, 0] }) station1
    t.link.frameErrors = 1 ∧ t.link.sent.take 2 = [0x05, 0x05] := by
  decide +kernel

theorem test_cycle_to_one_station :
    let t := after (.cycle (frame .cycle 1 0 false [1, 0x10, 0, 0, 0])) station1
    t.link.formatErrors = 1 ∧ t.link.sent.take 2 = [0x04, 0x02] := by
  decide +kernel

theorem test_unknown_verb :
    (after (.unknownVerb 0x1F (frameOf 0x1F 1 0 false [])) station1).link.formatErrors = 1 := by
  decide +kernel

theorem test_push_of_tag_0 :
    let t := after (.push (frame .push 1 0 true [0, 0x03, 0x84, 0, 200, 7])) station1
    t.link.sent.take 2 = [0x83, 0x04] ∧ t.link.dropped = 0 ∧ t.link.urgent = [] := by
  decide +kernel

theorem test_reset_link :
    (after (.resetLink (frame .resetLink 1 0 false [])) (port station1 (fun l => { l with
      headerErrors := 1, frameErrors := 1, formatErrors := 1, notices := [.stale 0], normal := [⟨0, .retire⟩] }))).link.sent
      = replyFrame Verb.resetLink.code 0 .ok [] := by
  decide +kernel

/-! ### Fast verbs -/

/-- Chapter 2: DEMAND +420, STILL, band 0 to the ram gives an estimate of 126 and the reply OK, RUN. -/
theorem test_demand_to_the_ram :
    let t := after (.demand (frame .demand 0 3 false [0x01, 0xA4, 0x00])) withRam
    (t.claim 3).demand = 420 ∧ (t.claim 3).estimate = 126 ∧ t.link.sent.take 3 = [0x00, 0x31, 1] ∧ t.passes.wanted = true := by
  decide +kernel

/-- Chapter 1: +333 at 7 is an estimate of 3; −400, FWD, band 5 draws 180 on the return side. -/
theorem test_estimates :
    ceilThousandth (333 * 7) = 3 ∧ (record .axis 1 0 1000 1500).estimate (-400) .fwd 5 = 180
      ∧ drawSide (-400) .fwd = .ret ∧ (record .axis 1 0 1000 1500).estimate (-400) .still 5 = 240
      ∧ drawSide (-400) .still = .drive := by
  decide +kernel

/-- Chapter 10: of five CYCLE entries one names another station, two meet no claim in RUN, and two are applied. -/
theorem test_cycle :
    let p : List Octet := [5, 0x01, 0x03, 0x84, 0x14, 0x11, 0x01, 0x2C, 0x12, 0x13, 0, 100, 0, 0x12, 0, 50, 0, 0x11, 0x01, 0x40, 0x12]
    let s := entry (port (binding station1 1 gantry) (fun l => { l with cycleRefusals := 3 })) 1
      (fun c => { c with demand := 200, sign := .fwd, band := 2, estimate := 160 })
    let t := after (.cycle (frame .cycle 7 0 false p)) s
    (t.claim 1).demand = 320 ∧ (t.claim 1).estimate = 256 ∧ t.link.cycleRefusals = 5 ∧ t.link.sent = [] := by
  decide +kernel

/-- Chapter 2: a STOP brakes the ram with its brake time, and the reply counts 1. -/
theorem test_stop :
    let t := after (.stop (frame .stop 0 3 false [0])) withRam
    (t.claim 3).state = .braking ∧ (t.claim 3).brakeTimer = .running 40 ∧ (t.channel 2).mode = .brake
      ∧ t.link.sent.take 3 = [0x00, 0x33, 1] := by
  decide +kernel

theorem test_lookup_clears_after_reporting :
    let s := withSpindle.modChannel 4 (fun k => { k with shortfall := 40, shortFlag := true })
    let t := after (.lookup (frame .lookup 0 0 false [1])) s
    (t.channel 4).shortfall = 0 ∧ (t.channel 4).shortFlag = true ∧ (t.link.sent.drop 2).take 24
      = [1, 1, 4, 0, 2, 0, 3, 0, 60, 5, 0, 0, 0, 0, 0, 0, 0, 0, 0, 0, 0, 40, 1, 0] := by
  decide +kernel

/-- A STATUS reports READY, the supply, the capability, G and the budgets, in the layout of 9.10.3. -/
theorem test_status :
    (after (.status (frame .status 0 0 false [])) ready).link.sent.take 19
      = [0x00, 0x05, 1, 1, 1, 0x05, 0x78, 0x04, 0xB0, 1, 0x01, 0x2C, 0x05, 0x78, 0x03, 0xE8, 7, 0, 0] := by
  decide +kernel

theorem test_read_notice :
    let t := after (.readNotice (frame .readNotice 0 0 false [])) (port ready (fun l => { l with notices := [.tripped 1 .safeOff] }))
    t.link.sent.take 6 = [0x00, 0x06, 4, 1, 5, 0] ∧ t.attention = false := by
  decide +kernel

/-- Chapter 8: CONFIGURE with G 300, base 1600 and 1000 and timeout 5 ms after a reset. -/
theorem test_configure :
    let t := after (.configure (frame .configure 0 0 false ((⟨300, 1600, 1000, 5⟩ : ConfigureFields).octets))) State.reset
    t.table.partState = .ready ∧ t.memory.free = 31 ∧ t.monitor.timer = .running 5 ∧ t.table.budgets = ⟨0, 0, some 7⟩
      ∧ t.link.notices = [] := by
  decide +kernel

/-! ### Structural requests -/

theorem test_bind_is_queued :
    let t := after (.bind (frame .bind 0 0 false spindle.octets)) ready
    t.link.normal = [⟨0, .bind spindle⟩] ∧ t.link.sent = replyFrame 0x10 0 .queued [] := by
  decide +kernel

theorem test_requests_join_their_queues :
    (after (.modify (frame .modify 0 0 false (ModifyFields.octets ⟨none, some 80, some 800, none, none, ⟨false, false, false⟩,
        ⟨false, false, false⟩⟩ (fun _ => 0xFF)))) ready).link.normal.length = 1
      ∧ (after (.retire (frame .retire 0 3 true [])) ready).link.urgent = [⟨3, .retire⟩]
      ∧ (after (.resume (frame .resume 0 3 false [])) ready).link.normal = [⟨3, .resume⟩]
      ∧ (after (.pop (frame .pop 0 0 false [21])) ready).link.normal = [⟨0, .pop 21⟩] := by
  decide +kernel

/-- Chapter 1: the spindle takes 3 cells and its floor; with the other floors at 220 a floor of 100 would exceed G. -/
theorem test_bind_taken :
    let t := after .bindTaken (waiting ready ⟨0, .bind spindle⟩)
    (t.claim 0).state = .run ∧ t.memory.free = 28 ∧ t.table.floorSum = 60 ∧ (t.channel 4).owner = some ⟨0, .primary⟩
      ∧ t.link.notices = [.done 0 .bind .ok] ∧ t.passes.wanted = true := by
  decide +kernel

theorem test_bind_taken_conflict :
    let s := { ready with table := { ready.table with floorSum := 241 } }
    after .bindTaken (waiting s ⟨0, .bind spindle⟩) = port s (fun l => { l with notices := [.done 0 .bind .floorConflict] }) := by
  decide +kernel

theorem test_modify_taken :
    let m : ModifyFields := ⟨none, some 80, some 800, none, some 0, ⟨false, false, false⟩, ⟨true, false, false⟩⟩
    let t := after .modifyTaken (waiting withSpindle ⟨0, .modify m⟩)
    t.table.floorSum = 80 ∧ (t.claim 0).floorHeld = some 80 ∧ t.link.notices = [.done 0 .modify .ok]
      ∧ (t.readBase 0).1.map (fun r => (r.currentLimit, r.holdDemand, r.flags)) = some (800, 0, ⟨false, false, true⟩) := by
  decide +kernel

/-- Chapter 2: RETIRE takes the ram at +380 to RELEASING with basis and ramped demand +380. -/
theorem test_retire_taken :
    let t := after .retireTaken (waiting (entry withRam 3 (fun c => { c with demand := 380 })) ⟨3, .retire⟩)
    (t.claim 3).state = .releasing ∧ (t.claim 3).releaseBasis = some 380 ∧ (t.channel 2).ramped = 380
      ∧ t.passes.wanted = false := by
  decide +kernel

theorem test_resume_taken :
    let s := entry withRam 3 (fun c => { c with state := .stale, demand := 350, driveGrant := 126, refreshTimer := .stopped })
    let t := after .resumeTaken (waiting s ⟨3, .resume⟩)
    (t.claim 3).state = .run ∧ (t.claim 3).demand = 0 ∧ (t.claim 3).driveGrant = 126 ∧ (t.claim 3).refreshTimer = .running 8 := by
  decide +kernel

/-- Chapter 4: tag 21 with limits 700 and 300 and cut 2 lowers both budgets in its step. -/
theorem test_push_taken :
    let t := after .pushTaken (waiting ready ⟨0, .push ⟨21, 700, 300, 2⟩⟩)
    t.table.budgets = ⟨700, 300, some 2⟩ ∧ t.memory.free = 30 ∧ t.link.notices = [.done 21 .push .ok] := by
  decide +kernel

theorem test_pop_taken :
    let t := after .popTaken (waiting ((ready.pushEntry ⟨21, 700, 300, 2⟩)) ⟨0, .pop 21⟩)
    t.table.stack = ready.table.stack ∧ t.memory.free = 31 ∧ t.link.notices = [.done 21 .pop .ok]
      ∧ after .popTaken (waiting ready ⟨0, .pop 21⟩) = port ready (fun l => { l with notices := [.done 21 .pop .baseOnly] }) := by
  decide +kernel

/-! ### Passes -/

/-- The snapshot of the worked allotment (chapter 5). -/
def fiveClaims : Snapshot where
  budgets := ⟨1400, 1000, some 7⟩
  entries := [⟨0, 3, .spindle, 80, 900, .drive, false⟩, ⟨1, 1, .pair, 100, 500, .drive, false⟩,
    ⟨2, 2, .axis, 0, 250, .drive, false⟩, ⟨3, 1, .axis, 120, 200, .drive, true⟩, ⟨4, 4, .axis, 0, 150, .ret, false⟩]

theorem test_worked_allotment :
    fiveClaims.compute.grants = [⟨1, 500, 0⟩, ⟨3, 200, 0⟩, ⟨2, 250, 0⟩, ⟨0, 450, 0⟩, ⟨4, 0, 150⟩]
      ∧ fiveClaims.compute.driveRemainder = 0 ∧ fiveClaims.compute.returnRemainder = 850 := by
  decide +kernel

theorem test_pass_start_and_completion :
    let s := entry (flags withRam (fun p => { p with wanted := true })) 3 (fun c => { c with estimate := 126 })
    let t := after .passStart s
    let u := after .passCompletion t
    t.passes.inFlight.isSome = true ∧ (u.claim 3).driveGrant = 126 ∧ u.passes.driveSlack = 1274
      ∧ u.passes.returnSlack = 1000 := by
  decide +kernel

/-! ### Record memory (chapter 3) -/

theorem test_upset_then_repair :
    let s := after (.cellUpset (.base 3) .primary) withRam
    let t := after (.demand (frame .demand 0 3 false [0x01, 0xA4, 0x00])) s
    s.link.notices = [] ∧ t.link.notices = [.repairedBase 3] ∧ t.memory.repairs = 1 ∧ t.memory.records = withRam.memory.records := by
  decide +kernel

/-! ### Timers, protective inputs, reports -/

theorem test_refresh_timer_expiry :
    let t := after (.refreshTimerExpiry 3) (entry withRam 3 (fun c => { c with demand := 420, estimate := 126 }))
    (t.claim 3).state = .stale ∧ (t.claim 3).demand = 350 ∧ (t.claim 3).estimate = 105 ∧ t.link.notices = [.stale 3] := by
  decide +kernel

theorem test_brake_timer_expiry :
    let t := after (.brakeTimerExpiry 3) (flags (withRam.enterBraking 3) (fun p => { p with wanted := false }))
    (t.claim 3).state = .halted ∧ (t.channel 2).gates = .off ∧ (t.channel 2).brakeEngaged = true
      ∧ t.link.notices = [.halted 3] := by
  decide +kernel

/-- Chapter 10: with 15 notices unread, the first of two TRIPPED notices fills the FIFO and the second is lost. -/
theorem test_safe_off_with_a_full_fifo :
    let s := port (binding withGantry 3 ram) (fun l => { l with notices := List.replicate 15 (.stale 0) })
    let t := after .safeOffAsserted s
    t.link.notices.length = 16 ∧ t.link.lostNotices = 1 ∧ (t.claim 1).tripReason = some .safeOff
      ∧ (t.claim 3).tripReason = some .safeOff ∧ (after .safeOffReleased t).table.safeOff = false := by
  decide +kernel

theorem test_stage_fault_then_report :
    let s := after (.stageFaultAsserted 1) withGantry
    let t := after (.tripReport 1) s
    s.reports = [⟨1, 1, .trip .stageFault⟩] ∧ (s.channel 0).faultHold = true ∧ (s.claim 1).state = .run
      ∧ (t.claim 1).tripReason = some .stageFault ∧ (after (.stageFaultReleased 1) s).stageFault 1 = false := by
  decide +kernel

theorem test_release_completion :
    let s := { withRam.enterReleasing 3 with reports := [⟨2, 3, .releaseComplete⟩] }
    let t := after (.releaseCompletion 2) s
    (t.claim 3) = Claim.unbound ∧ t.memory.free = 31 ∧ t.link.notices = [.released 3] := by
  decide +kernel

/-! ### Regulation (chapter 7) -/

/-- The spindle at its grant limit: current limit 800, demand +1500, FWD, band 5, drive grant 450. -/
def atGrantLimit : State :=
  entry (binding ready 0 { spindle with base := record .spindle 3 80 800 2200 }) 0
    (fun c => { c with demand := 1500, sign := .fwd, band := 5, estimate := 900, driveGrant := 450 })

theorem test_expiry_at_the_grant_limit :
    let t := after (.regulationExpiry 4 (sample 600) (sample 0)) atGrantLimit
    (t.channel 4).duty = 337 ∧ (t.channel 4).integrator = 37 ∧ (t.channel 4).gates = .driving 77
      ∧ (t.channel 4).shortfall = 1 ∧ (t.channel 4).shortFlag = true ∧ t.link.notices = [.short 0] := by
  decide +kernel

/-- The five rows of the step of the current law. -/
theorem test_current_law :
    let r := record .spindle 3 80 800 2200
    currentLaw r 750 600 0 = (337, 37) ∧ currentLaw r 750 700 37 = (149, 49) ∧ currentLaw r 800 200 49 = (1000, 49)
      ∧ currentLaw r 800 560 49 = (589, 109) ∧ currentLaw r 800 790 109 = (131, 111) := by
  decide +kernel

/-- Chapter 3: the spindle's optional part is found lost at an expiry, and the claim is LOST and TRIPPED in that step; a LOOKUP
before the report is taken answers so, and the report then changes nothing but itself. -/
theorem test_optional_part_lost_at_an_expiry :
    let s := (withSpindle.upset (.optional 0) .primary).upset (.optional 0) .shadow
    let t := after (.regulationExpiry 4 (sample 0) (sample 0)) s
    let u := after (.lookup (frame .lookup 0 0 false [0])) t
    (t.claim 0).state = .tripped ∧ (t.claim 0).condition = some .lost ∧ (t.channel 4).gates = .off
      ∧ t.link.notices = [.tripped 0 .recordLost] ∧ t.reports = [⟨4, 0, .trip .recordLost⟩]
      ∧ (u.link.sent.drop 2).take 7 = [6, 1, 4, 0, 4, 1, 0] ∧ after (.tripReport 4) u = { u with reports := [] } := by
  decide +kernel

/-- The racking gantry: the third expiry in a row above the balance limit reports, with gates off and holds set. -/
theorem test_imbalance :
    let s := withGantry.modChannel 0 (fun k => { k with imbalance := 2 })
    let t := after (.regulationExpiry 0 (sample 520) (sample 350)) s
    (t.channel 0).gates = .off ∧ (t.channel 1).faultHold = true ∧ t.reports = [⟨0, 1, .trip .imbalance⟩]
      ∧ ((after (.regulationExpiry 0 (sample 470) (sample 330)) s).channel 0).imbalance = 0 := by
  decide +kernel

/-! ### The supply (chapter 8) -/

/-- A good supply frame. -/
def supply (a b : Nat) (ready : Bool) : List LineChar :=
  let body := octets16 a ++ octets16 b ++ [markOctet ready]
  clean (body ++ wordOctets (frameCheck body))

theorem test_supply_frames :
    let s := after (.supplyFrame (supply 250 1200 true)) withRam
    (after (.supplyFrame (supply 1400 1200 true)) State.reset).monitor.lastDrive = 1400
      ∧ (after (.supplyFrame (clean [1, 2])) ready).monitor.checkErrors = 1
      ∧ s.monitor.state = .fault ∧ (s.claim 3).state = .braking ∧ s.table.budgets.drive = 0
      ∧ s.link.notices = [.supply .fault (some .belowFloor)] := by
  decide +kernel

theorem test_supply_timeout :
    let t := after .supplyTimeoutExpiry withRam
    t.monitor.timer = .stopped ∧ t.monitor.reason = some .timeout ∧ (t.claim 3).state = .braking := by
  decide +kernel

theorem test_power_on_reset :
    after (.powerOnReset ⟨0, false, 0⟩) withRam = State.reset
      ∧ (after (.powerOnReset ⟨2, true, 0x801⟩) withRam).stageFault 11 = true := by
  decide +kernel

/-! ## Hypotheses that can be met -/

/-! ### The machine and the link port -/

/-- The same part with an empty pass in flight, so that what waits in a queue stays there. -/
def busy (s : State) : State := flags s (fun p => { p with inFlight := some ⟨⟨⟨0, 0, none⟩, []⟩, 0, 0, []⟩ })

theorem test_hyp_EveryEventFindsNothingDue :
    State.reset.pending = [] ∧ Instr.safeOffReleased.isEvent = true ∧ (busy ready).settled = true := by
  decide +kernel

/-- A part that expects another station's reply. -/
def expecting : State := port ready (fun l => { l with replyExpected := true })

theorem test_hyp_BadHeadersAndFramesForOthersHaveNoEffect_bad :
    expecting.settled = true ∧ TakenAsCommand expecting 5001 false ∧ TakenAsCommand ready 2000 true
      ∧ (RawFrame.mk 2000 false (clean [0x21])).BadHeader ∧ (RawFrame.mk 5001 false (clean [0x21, 0x3C])).BadHeader
      ∧ (RawFrame.mk 2000 false [⟨0x21, true⟩, ⟨0x34, false⟩]).BadHeader :=
  ⟨by decide +kernel, by decide +kernel, by decide +kernel, trivial, .inr (.inr (by decide +kernel)), .inl rfl⟩

/-- Stations 3 and 4 stand on the two sides of the expectation of a reply; 5000 ns is the last of the reply window. -/
theorem test_hyp_BadHeadersAndFramesForOthersHaveNoEffect_others :
    ¬(RawFrame.mk 2000 false (clean [0x65, 0x04])).BadHeader ∧ (RawFrame.mk 2000 false (clean [0x65, 0x04])).station = 3
      ∧ ¬(RawFrame.mk 2000 false (clean [0x85, 0x03])).BadHeader ∧ (RawFrame.mk 2000 false (clean [0x85, 0x03])).station = 4
      ∧ ready.link.station.toNat = 0 ∧ ready.settled = true ∧ expecting.link.replyExpected = true ∧ (5000 : Nat) ≤ 5000
      ∧ Heard expecting false := by
  refine ⟨?_, by decide +kernel, ?_, by decide +kernel, by decide +kernel, by decide +kernel, rfl, Nat.le_refl _, .inl rfl⟩ <;>
    (show ¬(_ ∨ _ ∨ _)) <;> decide +kernel

/-- A part that sends its own reply, and frames of each kind that its reply covers. -/
theorem test_hyp_BadHeadersAndFramesForOthersHaveNoEffect_lost :
    let s := after (.readNotice (frame .readNotice 0 0 false [])) ready
    s.settled = true ∧ s.link.driverOn = true ∧ (RawFrame.mk 2000 true (clean [0x21])).duringReply = true
      ∧ ({ frame .stop 0 3 false [0] with duringReply := true } : Frame).duringReply = true
      ∧ ¬Heard s true ∧ TakenAsCommand s 2000 false := by
  decide +kernel

theorem test_hyp_FrameAndFormatErrorsChangeOneCounter_unknown :
    ready.settled = true ∧ (∀ v : Verb, v.code ≠ 0x09) ∧ Checked ready 0x09 (frameOf 0x09 0 3 false []) [] :=
  ⟨by decide +kernel, by intro v; cases v <;> decide, by decide +kernel⟩

theorem test_hyp_FrameAndFormatErrorsChangeOneCounter_check :
    let f : Frame := { frame .retire 7 3 false [] with body := clean [0] }
    ForThisPart ready Verb.retire.code f ∧ ∀ p, f.body ≠ checkedBody Verb.retire.code f p := by
  refine ⟨by decide +kernel, ?_⟩
  intro p h
  have := congrArg List.length h
  simp [checkedBody, clean, wordOctets] at this

theorem test_hyp_FrameAndFormatErrorsChangeOneCounter_manner :
    Verb.SentWrongly .cycle (frame .cycle 0 0 false [0]) ∧ Verb.SentWrongly .lookup (frame .lookup 7 0 false [0])
      ∧ Verb.SentWrongly .status (frame .status 7 0 false []) ∧ Verb.SentWrongly .readNotice (frame .readNotice 7 0 false [])
      ∧ Checked ready Verb.cycle.code (frame .cycle 0 0 false [0]) [0]
      ∧ Checked ready Verb.status.code (frame .status 7 0 false []) [] := by
  decide +kernel

/-- Each way a length can be wrong: beyond 68 octets, a fixed length, BIND by class and start band, and CYCLE by its count. -/
theorem test_hyp_FrameAndFormatErrorsChangeOneCounter_length :
    Verb.LengthWrong .bind (List.replicate 69 3) ∧ Verb.LengthWrong .demand [0, 0] ∧ Verb.LengthWrong .retire [0]
      ∧ Verb.LengthWrong .bind [] ∧ Verb.LengthWrong .bind (List.replicate 54 0) ∧ Verb.LengthWrong .bind (List.replicate 53 2)
      ∧ Verb.LengthWrong .bind (List.replicate 53 1) ∧ Verb.LengthWrong .bind (List.replicate 67 1)
      ∧ Verb.LengthWrong .cycle [] ∧ Verb.LengthWrong .cycle [1, 0, 0, 0] :=
  ⟨.inl (by decide), .inr (.inl ⟨3, rfl, by decide⟩), .inr (.inl ⟨0, rfl, by decide⟩),
    .inr (.inr (.inl ⟨rfl, .inl rfl⟩)), .inr (.inr (.inl ⟨rfl, .inr (.inl ⟨rfl, by decide⟩)⟩)),
    .inr (.inr (.inl ⟨rfl, .inr (.inr (.inl ⟨rfl, by decide⟩))⟩)),
    .inr (.inr (.inl ⟨rfl, .inr (.inr (.inr ⟨rfl, .inl (by decide)⟩))⟩)),
    .inr (.inr (.inl ⟨rfl, .inr (.inr (.inr ⟨rfl, .inr ⟨1, rfl, by decide, by decide, by decide⟩⟩))⟩)),
    .inr (.inr (.inr ⟨rfl, .inl rfl⟩)), .inr (.inr (.inr ⟨rfl, .inr ⟨1, rfl, by decide⟩⟩))⟩

/-- A verb's payload of its fixed length, or a CYCLE's by its count, is not wrong. -/
theorem lengths_right :
    ¬Verb.LengthWrong .demand [0x07, 0xD1, 0] ∧ ¬Verb.LengthWrong .demand [0x07, 0xD0, 0]
      ∧ ¬Verb.LengthWrong .cycle [1, 0, 0x07, 0xD1, 0] := by
  refine ⟨?_, ?_, ?_⟩ <;> simp [Verb.LengthWrong, Verb.payloadOctets, BindLengthWrong]

/-- DEMAND 2001 is out of range and 2000 in range; a CYCLE with one such entry; and a part that is UNCONFIGURED. -/
theorem test_hyp_RangeAndPartStateRefusalsChangeNothingElse :
    Checked ready Verb.demand.code (frame .demand 0 3 false [0x07, 0xD1, 0]) [0x07, 0xD1, 0]
      ∧ parseCommand .demand 0 3 false [0x07, 0xD1, 0] = none
      ∧ Checked ready Verb.cycle.code (frame .cycle 7 0 false [1, 0, 0x07, 0xD1, 0]) [1, 0, 0x07, 0xD1, 0]
      ∧ parseCommand .cycle 0 0 false [1, 0, 0x07, 0xD1, 0] = none ∧ (cycleNaming 0 [1, 0, 0x07, 0xD1, 0]).length = 1
      ∧ Checked State.reset Verb.demand.code (frame .demand 0 3 false [0x07, 0xD0, 0]) [0x07, 0xD0, 0]
      ∧ parseCommand .demand 0 3 false [0x07, 0xD0, 0] ≠ none ∧ State.reset.table.partState = .unconfigured
      ∧ State.reset.settled = true ∧ ¬Verb.SentWrongly .demand (frame .demand 0 3 false [0x07, 0xD0, 0])
      ∧ ¬Verb.SentWrongly .cycle (frame .cycle 7 0 false [1, 0, 0x07, 0xD1, 0]) := by
  decide +kernel

/-! ### Payloads -/

theorem bases_admissible : ram.base.Admissible ∧ gantry.base.Admissible ∧ spindle.base.Admissible := by
  refine ⟨?_, ?_, ?_⟩ <;> (unfold BaseRecord.Admissible; decide +kernel)

theorem binds_admissible : ram.Admissible ∧ gantry.Admissible ∧ spindle.Admissible :=
  ⟨⟨bases_admissible.1, trivial⟩, ⟨bases_admissible.2.1, by decide, by decide, by decide⟩,
    ⟨bases_admissible.2.2, by decide, rfl, by decide⟩⟩

/-- A MODIFY with every field at a bound of its range. -/
def widest : ModifyFields := ⟨some 7, some 4000, some 100, some 3000, some (-2000), ⟨true, false, true⟩, ⟨false, true, false⟩⟩

theorem widest_admissible : widest.Admissible := by
  unfold ModifyFields.Admissible
  decide +kernel

theorem test_hyp_CarriedCommandIsReadBack_fast :
    (Command.demand 3 ⟨-2000, .rev, 7⟩).Admissible
      ∧ (Command.demand 3 ⟨-2000, .rev, 7⟩).Carried 0 3 false (⟨-2000, .rev, 7⟩ : DemandFields).octets
      ∧ (Command.cycle [⟨15, ⟨2000, .fwd, 0⟩⟩]).Admissible
      ∧ (Command.cycle [⟨15, ⟨2000, .fwd, 0⟩⟩]).Carried 1 0 false [2, 0x00, 0, 0, 0, 0x1F, 0x07, 0xD0, 0x10]
      ∧ (Command.stop (some 3)).Carried 0 3 false [0] ∧ (Command.stop none).Carried 0 3 false [1]
      ∧ (Command.lookup 3 true).Carried 0 3 false [1] ∧ Command.status.Carried 0 0 false []
      ∧ Command.readNotice.Carried 0 0 false [] ∧ Command.resetLink.Carried 0 0 false []
      ∧ (Command.configure ⟨4000, 4000, 0, 50⟩).Admissible
      ∧ (Command.configure ⟨4000, 4000, 0, 50⟩).Carried 0 0 false (⟨4000, 4000, 0, 50⟩ : ConfigureFields).octets :=
  ⟨Nat.le_refl 2000, ⟨rfl, rfl⟩,
    (by intro e he; cases he with | head => exact Nat.le_refl 2000 | tail _ h => cases h),
    ⟨[(0x00, 0, 0, 0), (0x1F, 0x07, 0xD0, 0x10)], by decide, by decide, by decide, by decide⟩, ⟨rfl, rfl⟩, rfl, ⟨rfl, rfl⟩,
    rfl, rfl, rfl, (by decide : ConfigureFields.Admissible ⟨4000, 4000, 0, 50⟩), rfl⟩

theorem test_hyp_CarriedCommandIsReadBack_structural :
    (Command.structural true ⟨15, .bind spindle⟩).Admissible
      ∧ (Command.structural true ⟨15, .bind spindle⟩).Carried 0 15 true spindle.octets
      ∧ (Command.structural false ⟨3, .modify widest⟩).Admissible
      ∧ (Command.structural false ⟨3, .modify widest⟩).Carried 0 3 false (widest.octets (fun _ => 0xFF))
      ∧ (Command.structural false ⟨3, .retire⟩).Carried 0 3 false []
      ∧ (Command.structural false ⟨3, .resume⟩).Carried 0 3 false []
      ∧ (Command.structural false ⟨0, .push ⟨255, 4000, 0, 1⟩⟩).Admissible
      ∧ (Command.structural false ⟨0, .push ⟨255, 4000, 0, 1⟩⟩).Carried 0 0 false (⟨255, 4000, 0, 1⟩ : Envelope).octets
      ∧ (Command.structural false ⟨0, .pop 255⟩).Admissible ∧ (Command.structural false ⟨0, .pop 255⟩).Carried 0 0 false [255] :=
  ⟨binds_admissible.2.2, ⟨rfl, rfl, rfl⟩, widest_admissible, ⟨rfl, rfl, _, rfl⟩, ⟨rfl, rfl, rfl⟩, ⟨rfl, rfl, rfl⟩,
    (by decide : Envelope.Admissible ⟨255, 4000, 0, 1⟩), ⟨rfl, rfl, rfl⟩, Nat.le_refl 255, ⟨rfl, rfl, rfl⟩⟩

theorem test_hyp_AdmittedCommandLiesInItsRanges :
    parseCommand .demand 0 3 false [0x07, 0xD0, 0x27] = some (.demand 3 ⟨2000, .rev, 7⟩)
      ∧ parseCommand .bind 0 0 false gantry.octets = some (.structural false ⟨0, .bind gantry⟩)
      ∧ parseCommand .modify 0 3 true (widest.octets (fun _ => 0)) = some (.structural true ⟨3, .modify widest⟩)
      ∧ parseCommand .push 0 0 false [1, 0x0F, 0xA0, 0, 0, 7] = some (.structural false ⟨0, .push ⟨1, 4000, 0, 7⟩⟩)
      ∧ parseCommand .configure 0 0 false [0, 0, 0, 0, 0, 0, 2] = some (.configure ⟨0, 0, 0, 2⟩)
      ∧ parseCommand .stop 0 3 false [1] = some (.stop none) := by
  decide +kernel

/-- Payloads of the right length for their verb; and the codes of R168 that are out of range. -/
theorem test_hyp_AdmittedCommandLiesInItsRanges_length :
    ¬Verb.LengthWrong .demand [0x07, 0xD0, 0x27] ∧ ¬Verb.LengthWrong .stop [1] ∧ parseCommand .stop 0 3 false [2] = none
      ∧ parseCommand .lookup 0 3 false [2] = none ∧ parseCommand .demand 0 3 false [0, 0, 0x30] = none
      ∧ parseCommand .demand 0 3 false [0, 0, 0x08] = none := by
  refine ⟨?_, ?_, by decide +kernel, by decide +kernel, by decide +kernel, by decide +kernel⟩ <;>
    simp [Verb.LengthWrong, Verb.payloadOctets]

/-- Queues with one place left, and full, while a pass is in flight. -/
theorem test_hyp_StructuralRequestJoinsNamedQueueOrIsDropped :
    let s (u n : Nat) : State :=
      port (busy ready) (fun l => { l with urgent := List.replicate u ⟨0, .retire⟩, normal := List.replicate n ⟨0, .retire⟩ })
    (s 3 7).settled = true ∧ (s 4 8).settled = true ∧ (s 3 7).link.urgent.length < 4 ∧ (s 3 7).link.normal.length < 8
      ∧ 4 ≤ (s 4 8).link.urgent.length ∧ 8 ≤ (s 4 8).link.normal.length ∧ (s 3 7).table.partState = .ready
      ∧ Checked (s 3 7) Verb.retire.code (frame .retire 0 3 true []) [] ∧ (frame .retire 0 3 true []).urgent = true
      ∧ Checked (s 4 8) Verb.retire.code (frame .retire 7 3 false []) [] := by
  decide +kernel

theorem test_hyp_AttentionLineFollowsNoticeFifo :
    (ready.post (.stale 0)).link.notices = [.stale 0]
      ∧ ((ready.post (.stale 0)).post (.halted 1)).link.notices = .stale 0 :: .halted 1 :: [] ∧ ready.link.notices = [] := by
  decide +kernel

/-! ### Fast verbs -/

theorem test_hyp_AppliedDemandReplacesValues :
    let s := spoilt withRam 3
    (withRam.claim 3).state = .run ∧ (withRam.claim 3).refreshWindow = some 8
      ∧ withRam.readBase 3 = (some ram.base, withRam) ∧ (s.claim 3).state = .run ∧ (s.claim 3).refreshWindow = some 8
      ∧ s.readBase 3 = (none, s) ∧ ((withRam.claim 3).demand, (withRam.claim 3).sign, (withRam.claim 3).band) = (0, .still, 0) := by
  decide +kernel

theorem test_hyp_DemandIsAppliedInRunAndRefusedElsewhere :
    let d : DemandFields := ⟨-2000, .rev, 7⟩
    let f (h : BitVec 4) := frame .demand 7 h true d.octets
    withRam.settled = true ∧ withRam.table.partState = .ready ∧ d.Admissible ∧ Checked withRam Verb.demand.code (f 3) d.octets
      ∧ (withRam.claim 3).stageMap = some ⟨.axis, 2, none⟩ ∧ (withRam.claim 3).state = .run
      ∧ Checked withRam Verb.demand.code (f 5) d.octets ∧ (withRam.claim 5).state = .unbound
      ∧ ((flags (withRam.enterBraking 3) (fun _ => PassBook.initial)).claim 3).state = .braking
      ∧ (flags (withRam.enterBraking 3) (fun _ => PassBook.initial)).settled = true := by
  decide +kernel

theorem test_hyp_CycleTakesItsEntriesInListOrder :
    let e : CycleEntry := ⟨3, ⟨2000, .fwd, 0⟩⟩
    let p : List Octet := [1, 0x03, 0x07, 0xD0, 0x10]
    CarriesCycle 0 [e] p ∧ Checked withRam Verb.cycle.code (frame .cycle 7 0 false p) p ∧ e.fields.Admissible
      ∧ withRam.settled = true ∧ (frame .cycle 7 0 false p).station = 7 ∧ (withRam.claim 3).state = .run
      ∧ (withRam.claim 4).state ≠ .run :=
  ⟨⟨[(0x03, 0x07, 0xD0, 0x10)], by decide, by decide, by decide, by decide⟩, by decide +kernel, by decide, by decide +kernel,
    rfl, by decide +kernel, by decide +kernel⟩

theorem test_hyp_StopBrakesEveryLiveClaimInScope :
    withRam.settled = true ∧ withRam.table.partState = .ready
      ∧ Checked withRam Verb.stop.code (frame .stop 0 3 false [markOctet false]) [markOctet false]
      ∧ Checked withRam Verb.stop.code (frame .stop 7 0 false [markOctet true]) [markOctet true]
      ∧ Handle.all.filter (fun h => (withRam.claim h).state.live) = [3]
      ∧ Handle.all.filter (fun h => (ready.claim h).state.live) = []
      ∧ withRam.readBase 3 = (some ram.base, withRam) := by
  decide +kernel

theorem test_hyp_EnteringBrakingEngagesBrakesAndTimer :
    (withRam.claim 3).state.live = true ∧ (withRam.claim 3).stageMap = some ⟨.axis, 2, none⟩
      ∧ withRam.readBase 3 = (some ram.base, withRam) ∧ ((withRam.enterReleasing 3).claim 3).state = .releasing
      ∧ ((spoilt withRam 3).claim 3).state.live = true ∧ (spoilt withRam 3).readBase 3 = (none, spoilt withRam 3) := by
  decide +kernel

theorem test_hyp_EnteringTrippedRecordsFirstReason :
    (ready.claim 3).state = .unbound ∧ ((withRam.enterTripped 3 .imbalance).claim 3).state = .tripped
      ∧ (withRam.claim 3).state = .run ∧ (withRam.claim 3).stageMap = some ⟨.axis, 2, none⟩
      ∧ (withGantry.claim 1).stageMap = some ⟨.pair, 0, some 1⟩ := by
  decide +kernel

theorem test_hyp_FreedClaimGivesBackCellsFloorAndStages :
    (withGantry.claim 1).stageMap = some ⟨.pair, 0, some 1⟩ ∧ (withGantry.claim 1).floorHeld = some 100 := by
  decide +kernel

theorem test_hyp_LookupReportsTheClaimAsItStands :
    let lost := flags (withRam.recordLost 3) (fun _ => PassBook.initial)
    let f (h : BitVec 4) := frame .lookup 0 h false [markOctet true]
    withRam.settled = true ∧ lost.settled = true ∧ Checked withRam Verb.lookup.code (f 5) [markOctet true]
      ∧ (withRam.claim 5).state = .unbound ∧ Checked withRam Verb.lookup.code (f 3) [markOctet true]
      ∧ (lost.claim 3).state ≠ .unbound ∧ (lost.claim 3).condition = some .lost ∧ (withRam.claim 3).condition ≠ some .lost
      ∧ withRam.readBase 3 = (some ram.base, withRam) ∧ (spoilt withRam 3).readBase 3 = (none, spoilt withRam 3)
      ∧ ((spoilt withRam 3).claim 3).condition ≠ some .lost ∧ (f 3).station ≠ 7
      ∧ withRam.table.partState = .ready ∧ (spoilt withRam 3).settled = true
      ∧ (withRam.claim 3).stageMap = some ⟨.axis, 2, none⟩ ∧ (lost.claim 3).stageMap = some ⟨.axis, 2, none⟩
      ∧ (withGantry.claim 1).stageMap = some ⟨.pair, 0, some 1⟩ := by
  decide +kernel

theorem test_hyp_StatusReportsThePartAfterItsReads :
    let s := (ready.pushEntry ⟨21, 700, 300, 2⟩).setEntry 2 ⟨Part.written ⟨21, 700, 300, 2⟩, .lost⟩
    s.settled = true ∧ Checked s Verb.status.code (frame .status 0 0 false []) []
      ∧ (∀ e ∈ s.table.stack, e.condition = .intact → e.part.primary.good = true) := by
  decide +kernel

/-- Chapters 3 and 10: of three entries the second is repaired and the third, the top, found lost; the reply reports the tag of
the third unknown, the repair, both notices and the budgets recomputed from the LOST top. -/
theorem test_hyp_StatusReportsThePartAfterItsReads_damaged :
    let e (tag : Nat) (a b : Bool) : StackEntry := ⟨⟨⟨⟨tag, 700, 300, 2⟩, a⟩, ⟨⟨tag, 700, 300, 2⟩, b⟩⟩, .intact⟩
    let s : State := { ready with table := { ready.table with stack := ready.table.stack ++ [e 21 false true, e 22 false false] } }
    let t := after (.status (frame .status 0 0 false [])) s
    s.settled = true ∧ t.link.notices = [.repairedEnvelope 2, .envelopeLost 3]
      ∧ (t.link.sent.drop 12).take 10 = [0x01, 0x2C, 0, 0, 1, 0, 0, 0, 0, 3]
      ∧ (t.link.sent.drop 22).take 4 = [4, 0, 21, 0] ∧ (t.link.sent.drop 35).take 1 = [2]
      ∧ (t.link.sent.drop 45).take 1 = [1] := by
  decide +kernel

theorem test_hyp_ReadNoticeTakesTheOldest :
    let s := ready.post (.stale 0)
    s.settled = true ∧ Checked s Verb.readNotice.code (frame .readNotice 0 0 false []) [] ∧ s.link.notices = .stale 0 :: []
      ∧ Checked ready Verb.readNotice.code (frame .readNotice 0 0 false []) [] ∧ ready.link.notices = [] := by
  decide +kernel

theorem test_hyp_ConfigureSetsThePartOrIsRefused :
    let x : ConfigureFields := ⟨0, 0, 4000, 2⟩
    let f := frame .configure 7 0 false x.octets
    x.Admissible ∧ State.reset.settled = true ∧ Checked State.reset Verb.configure.code f x.octets
      ∧ (∀ h, State.reset.claim h = Claim.unbound) ∧ State.reset.table.stack.length ≤ 1
      ∧ (∀ h, (busy ready).claim h = Claim.unbound) ∧ (busy ready).settled = true ∧ (busy ready).table.stack.length ≤ 1
      ∧ (withRam.claim 3).state ≠ .unbound ∧ Checked withRam Verb.configure.code f x.octets
      ∧ 1 < (ready.pushEntry ⟨21, 700, 300, 2⟩).table.stack.length := by
  decide +kernel

theorem test_hyp_ResetLinkClearsThePortAlone :
    Checked State.reset Verb.resetLink.code (frame .resetLink 7 0 false []) [] ∧ State.reset.settled = true
      ∧ Checked ready Verb.resetLink.code (frame .resetLink 0 0 true []) [] := by
  decide +kernel

/-! ### Structural requests taken -/

/-- A request alone in the normal queue of an idle part is taken next. -/
theorem takenNext_waiting (s : State) (r : Request) (hp : s.passes = PassBook.initial) (hu : s.link.urgent = []) :
    TakenNext (waiting s r) r { (waiting s r).link with normal := [] } := by
  have h1 : (waiting s r).passes = PassBook.initial := hp
  exact ⟨by rw [h1]; rfl, by rw [h1]; rfl, .inr ⟨hu, [], rfl, rfl⟩⟩

theorem test_hyp_RequestsAreTakenUrgentFirstAndNeverDuringAPass :
    Verb.retire.taking = some .retireTaken ∧ (busy ready).passes.inFlight.isSome = true
      ∧ (flags ready (fun p => { p with wanted := true })).passes.wanted = true ∧ ready.link.urgent = []
      ∧ ready.link.normal = []
      ∧ TakenNext (waiting ready ⟨3, .retire⟩) ⟨3, .retire⟩ { (waiting ready ⟨3, .retire⟩).link with normal := [] }
      ∧ TakenNext (pressing ready ⟨3, .retire⟩) ⟨3, .retire⟩ { (pressing ready ⟨3, .retire⟩).link with urgent := [] } :=
  ⟨rfl, rfl, rfl, rfl, rfl, takenNext_waiting ready _ rfl rfl, rfl, rfl, .inl ⟨[], rfl, rfl⟩⟩

/-- A part with exactly the cells and the floor that the gantry takes. -/
def justEnough : State := { ready with
  memory := { ready.memory with free := 3 }
  table := { ready.table with floorSum := 200 } }

theorem test_hyp_BindTakenCreatesTheClaim :
    let s := waiting justEnough ⟨1, .bind gantry⟩
    TakenNext s ⟨1, .bind gantry⟩ { s.link with normal := [] } ∧ gantry.Admissible
      ∧ ((s.claim 1).state = .unbound ∧ s.table.safeOff = false ∧ s.table.standing.state = .normal
        ∧ s.table.floorSum + gantry.base.floor ≤ s.table.g ∧ 3 ≤ s.memory.free)
      ∧ (∀ k m st, (s.claim k).stageMap = some m → st ∈ m.stages → st ∉ gantry.stageMap.stages)
      ∧ (¬∃ st ∈ gantry.stageMap.stages, s.stageFault st = true)
      ∧ ∃ st ∈ gantry.stageMap.stages, (s.setStageFault 1 true).stageFault st = true := by
  refine ⟨takenNext_waiting justEnough _ rfl rfl, binds_admissible.2.1, by decide +kernel, ?_, by decide +kernel,
    by decide +kernel⟩
  intro k m st hm
  have hn : ∀ k, ((waiting justEnough ⟨1, .bind gantry⟩).claim k).stageMap = none := by decide +kernel
  rw [hn k] at hm
  cases hm

/-- A part for each check of a BIND that can be the first to fail; the ram wants 2 cells and a floor of 120. -/
theorem test_hyp_BindTakenEndsWithFirstFailedCheck :
    (withRam.claim 3).state ≠ .unbound ∧ (ready.setSafeOff true).table.safeOff = true
      ∧ (ready.setStanding ⟨.fault, 0, 0⟩).table.standing.state ≠ .normal
      ∧ (∃ k m st, (withRam.claim k).stageMap = some m ∧ st ∈ m.stages ∧ st ∈ ram.stageMap.stages)
      ∧ (withRam.claim 4).state = .unbound ∧ withRam.table.safeOff = false ∧ withRam.table.standing.state = .normal
      ∧ (let t : State := { ready with table := { ready.table with floorSum := 181 } }
        t.table.g < t.table.floorSum + ram.base.floor)
      ∧ (¬∃ k m st, (ready.claim k).stageMap = some m ∧ st ∈ m.stages ∧ st ∈ ram.stageMap.stages)
      ∧ ¬(ready.table.g < ready.table.floorSum + ram.base.floor)
      ∧ (let t : State := { ready with memory := { ready.memory with free := 1 } }
        t.memory.free < (if ram.base.cls = .axis then 2 else 3)) := by
  refine ⟨by decide +kernel, by decide +kernel, by decide +kernel, ⟨3, ⟨.axis, 2, none⟩, 2, by decide +kernel⟩,
    by decide +kernel, by decide +kernel, by decide +kernel, by decide +kernel, ?_, by decide +kernel, by decide +kernel⟩
  rintro ⟨k, m, st, hm, _⟩
  have hn : ∀ k, (ready.claim k).stageMap = none := by decide +kernel
  rw [hn k] at hm
  cases hm

/-- The read that a MODIFY makes, good and lost, and a resulting record on each side of the checks: a floor of 300 equals G. -/
theorem test_hyp_ModifyTakenRewritesTheBasePart :
    let m (floor limit : Nat) : ModifyFields := ⟨none, some floor, some limit, none, none, ⟨false, false, false⟩, ⟨false, false, false⟩⟩
    let bad := spoilt withRam 3
    (withRam.claim 3).state = .run ∧ (withRam.claim 3).condition = some .intact ∧ withRam.readBase 3 = (some ram.base, withRam)
      ∧ (bad.claim 3).state = .run ∧ (bad.claim 3).condition = some .intact ∧ bad.readBase 3 = (none, bad)
      ∧ ((withRam.recordLost 3).claim 3).state = .tripped ∧ (ready.claim 3).state = .unbound
      ∧ withRam.table.floorSum - (withRam.claim 3).floorHeld.getD 0 + ((m 300 1499).apply ram.base).floor = withRam.table.g
      ∧ ((m 300 1500).apply ram.base).tripLevel ≤ ((m 300 1500).apply ram.base).currentLimit
      ∧ ((m 300 349).apply ram.base).currentLimit < ((m 300 349).apply ram.base).holdDemand.natAbs
      ∧ withRam.table.g < withRam.table.floorSum - (withRam.claim 3).floorHeld.getD 0 + ((m 301 1499).apply ram.base).floor
      ∧ ¬(((m 300 1499).apply ram.base).tripLevel ≤ ((m 300 1499).apply ram.base).currentLimit) := by
  decide +kernel

/-- The ram in every state that a claim can be in, at rest. -/
def ramIn (x : ClaimState) : State := entry withRam 3 (fun c => { c with state := x })

theorem test_hyp_RetireTakenStartsReleaseOrFrees (x : ClaimState) :
    let s := waiting (ramIn x) ⟨3, .retire⟩
    TakenNext s ⟨3, .retire⟩ { s.link with normal := [] } ∧ (s.claim 3).state = x
      ∧ (s.claim 3).stageMap = some ⟨.axis, 2, none⟩ :=
  ⟨takenNext_waiting (ramIn x) _ rfl rfl, by cases x <;> decide +kernel, by cases x <;> decide +kernel⟩

theorem test_hyp_ResumeTakenReturnsTheClaimToRun (x : ClaimState) :
    let s := waiting (ramIn x) ⟨3, .resume⟩
    TakenNext s ⟨3, .resume⟩ { s.link with normal := [] } ∧ (s.claim 3).state = x
      ∧ (s.claim 3).stageMap = some ⟨.axis, 2, none⟩ ∧ (s.claim 3).refreshWindow = some 8 ∧ s.table.safeOff = false
      ∧ s.table.standing.state = .normal ∧ (s.setSafeOff true).table.safeOff = true
      ∧ (s.setStanding ⟨.absent, 0, 0⟩).table.standing.state ≠ .normal :=
  ⟨takenNext_waiting (ramIn x) _ rfl rfl, by cases x <;> decide +kernel, by cases x <;> decide +kernel,
    by cases x <;> decide +kernel, by cases x <;> decide +kernel, by cases x <;> decide +kernel, rfl, nofun⟩

/-- A stack of a given depth. -/
def deep (n : Nat) : State := { ready with table := { ready.table with
  stack := ready.table.stack ++ List.replicate (n - 1) ⟨Part.written ⟨21, 700, 300, 2⟩, .intact⟩ } }

/-- Depths 7 and 8, no cell free, and a drive limit on each side of G = 300. -/
theorem test_hyp_PushTakenPutsTheEnvelopeOnTop :
    let s := waiting (deep 7) ⟨0, .push ⟨9, 300, 0, 1⟩⟩
    TakenNext s ⟨0, .push ⟨9, 300, 0, 1⟩⟩ { s.link with normal := [] } ∧ s.table.stack.length < 8 ∧ s.memory.free ≠ 0
      ∧ s.table.g ≤ 300 ∧ 299 < s.table.g ∧ 8 ≤ (deep 8).table.stack.length
      ∧ (let t : State := { deep 7 with memory := { (deep 7).memory with free := 0 } }
        t.table.stack.length < 8 ∧ t.memory.free = 0) :=
  ⟨takenNext_waiting (deep 7) _ rfl rfl, by decide +kernel, by decide +kernel, by decide +kernel, by decide +kernel,
    by decide +kernel, by decide +kernel⟩

/-- The top envelope good, LOST already, and lost at this read. -/
theorem test_hyp_PopTakenRemovesTheTopEnvelope :
    let s := waiting (deep 2) ⟨0, .pop 21⟩
    let lost := s.setEntry 2 ⟨Part.written ⟨21, 700, 300, 2⟩, .lost⟩
    let bad := s.setEntry 2 ⟨⟨⟨⟨21, 700, 300, 2⟩, false⟩, ⟨⟨21, 700, 300, 2⟩, false⟩⟩, .intact⟩
    TakenNext s ⟨0, .pop 21⟩ { s.link with normal := [] } ∧ 1 < s.table.stack.length ∧ (deep 1).table.stack.length ≤ 1
      ∧ ({ s with link := { s.link with normal := [] } } : State).readEnvelope 2 = (.values ⟨21, 700, 300, 2⟩, deep 2)
      ∧ (lost.readEnvelope 2).1 = .lost false ∧ (bad.readEnvelope 2).1 = .lost true :=
  ⟨takenNext_waiting (deep 2) _ rfl rfl, by decide +kernel, by decide +kernel, by decide +kernel, by decide +kernel,
    by decide +kernel⟩

/-! ### Budgets and passes -/

theorem test_hyp_RecomputedBudgetsLowerGrantsAtOnce :
    let top : StackEntry := ⟨Part.written ⟨21, 700, 300, 2⟩, .intact⟩
    State.reset.table.stack = [] ∧ (deep 2).table.stack = (deep 1).table.stack ++ [top] ∧ top.part.primary.good = true
      ∧ (let t := (deep 2).setEntry 2 { top with condition := .lost }
        t.table.stack = (deep 1).table.stack ++ [{ top with condition := .lost }])
      ∧ (∀ good, let p : Machine.Part Envelope := ⟨⟨⟨21, 700, 300, 2⟩, false⟩, ⟨⟨21, 700, 300, 2⟩, good⟩⟩
        let t := (deep 2).setEntry 2 ⟨p, .intact⟩
        t.table.stack = (deep 1).table.stack ++ [⟨p, .intact⟩] ∧ p.primary.good = false ∧ p.shadow.good = good) := by
  decide +kernel

theorem test_hyp_PassStartSnapshotsTheLiveClaims :
    let s := flags withRam (fun p => { p with wanted := true })
    let r (h : Handle) : Option BaseRecord := if h = 3 then some ram.base else none
    withRam.passes.wanted = false ∧ s.passes.wanted = true ∧ s.passes.inFlight = none
      ∧ ∀ h, (s.claim h).state.live = true → ∃ p, (s.recordsOf h).base = some p
        ∧ r h = (if p.primary.good then some p.primary.value else if p.shadow.good then some p.shadow.value else none) := by
  refine ⟨by decide +kernel, by decide +kernel, by decide +kernel, ?_⟩
  intro h hl
  have h3 : h = 3 := by revert h; decide +kernel
  subst h3
  exact ⟨Part.written ram.base, by decide +kernel, by decide +kernel⟩

/-- The worked allotment in flight, with a request in either queue or in neither. -/
theorem test_hyp_PassCompletionPublishesUnlessVoid :
    let s := flags withSpindle (fun p => { p with inFlight := some fiveClaims.compute })
    withRam.settled = true ∧ withRam.passes.inFlight = none ∧ s.settled = true
      ∧ s.passes.inFlight = some fiveClaims.compute ∧ (fiveClaims.compute.grants.map (·.handle)).Nodup
      ∧ s.link.urgent = [] ∧ s.link.normal = [] ∧ (pressing s ⟨0, .retire⟩).link.urgent = ⟨0, .retire⟩ :: []
      ∧ (pressing s ⟨0, .retire⟩).settled = true ∧ (waiting s ⟨0, .retire⟩).link.normal = ⟨0, .retire⟩ :: []
      ∧ (waiting s ⟨0, .retire⟩).settled = true ∧ (waiting s ⟨0, .retire⟩).link.urgent = []
      ∧ (⟨0, 450, 0⟩ : GrantLine) ∈ fiveClaims.compute.grants ∧ (s.claim 0).state.live = true
      ∧ (s.claim 1).state.live = false ∧ 5 ∉ fiveClaims.compute.grants.map (·.handle) := by
  decide +kernel

theorem test_hyp_GrantOrderIsByLevelClassAndHandle :
    (fiveClaims.entries.map (·.handle)).Nodup ∧ (withGantry.claim 1).stageMap = some ⟨.pair, 0, some 1⟩ := by
  decide +kernel

/-- An entry that may draw, one cut off but exempt, one cut off, and one on the return side, each at its place. -/
theorem test_hyp_GrantsOfAPassFollowRemaindersInOrder :
    let sn (cut : Nat) : Snapshot := { fiveClaims with budgets := ⟨1400, 1000, some cut⟩ }
    (∀ cut, (sn cut).entries = fiveClaims.entries)
      ∧ grantOrder fiveClaims.entries = [] ++ (⟨1, 1, .pair, 100, 500, .drive, false⟩ : SnapshotEntry)
        :: [⟨3, 1, .axis, 120, 200, .drive, true⟩, ⟨2, 2, .axis, 0, 250, .drive, false⟩,
          ⟨0, 3, .spindle, 80, 900, .drive, false⟩, ⟨4, 4, .axis, 0, 150, .ret, false⟩]
      ∧ ((1 : Nat) ≤ 1 ∧ ¬((3 : Nat) ≤ 2)) ∧ (⟨3, 1, .axis, 120, 200, .drive, true⟩ : SnapshotEntry).cutExempt = true :=
  ⟨fun _ => rfl, by decide +kernel, by decide, rfl⟩

theorem test_hyp_GrantsAndSlackMakeUpTheBudget :
    (fiveClaims.entries.map (·.floor)).sum ≤ fiveClaims.budgets.drive
      ∧ (({ fiveClaims with budgets := ⟨300, 0, none⟩ } : Snapshot).entries.map (·.floor)).sum ≤ 300
      ∧ (⟨⟨0, 0, none⟩, []⟩ : Snapshot).entries = []
      ∧ (let sn : Snapshot := { fiveClaims with budgets := ⟨2000, 1000, some 3⟩ }
        0 < sn.compute.driveRemainder ∧ (⟨0, 3, .spindle, 80, 900, .drive, false⟩ : SnapshotEntry) ∈ sn.entries
          ∧ sn.budgets.cut = some 3) := by
  decide +kernel

/-! ### Record memory -/

/-- Each condition of the two copies, for the two parts of the spindle and for an envelope. -/
theorem test_hyp_ChecksOnReadRepairOrLose (a b : Bool) :
    let s := withSpindle.setRecords 0
      ⟨some ⟨⟨spindle.base, a⟩, ⟨spindle.base, b⟩⟩, some ⟨⟨.weakening 7 [750], a⟩, ⟨.weakening 7 [750], b⟩⟩⟩
    let t := (deep 8).setEntry 8 ⟨⟨⟨⟨21, 700, 300, 2⟩, a⟩, ⟨⟨21, 700, 300, 2⟩, b⟩⟩, .intact⟩
    (s.recordsOf 0).base = some ⟨⟨spindle.base, a⟩, ⟨spindle.base, b⟩⟩
      ∧ (s.recordsOf 0).optional = some ⟨⟨.weakening 7 [750], a⟩, ⟨.weakening 7 [750], b⟩⟩
      ∧ t.table.stack[8 - 1]? = some ⟨⟨⟨⟨21, 700, 300, 2⟩, a⟩, ⟨⟨21, 700, 300, 2⟩, b⟩⟩, .intact⟩
      ∧ (deep 1).table.stack[1 - 1]? = some ⟨Part.written ⟨0, 1600, 1000, 7⟩, .intact⟩ := by
  cases a <;> cases b <;> decide +kernel

theorem test_hyp_CellUpsetSpoilsOneCopyUnseen :
    withSpindle.settled = true ∧ (withSpindle.recordsOf 0).base = some (Part.written spindle.base)
      ∧ (withSpindle.recordsOf 0).optional = some (Part.written (.weakening 4 [1400, 1100, 900, 750]))
      ∧ withSpindle.table.stack[1 - 1]? = some ⟨Part.written ⟨0, 1600, 1000, 7⟩, .intact⟩
      ∧ (withSpindle.recordsOf 1).base = none ∧ (withRam.recordsOf 3).optional = none
      ∧ withSpindle.table.stack.length < 2 := by
  decide +kernel

/-! ### Timers and protective inputs -/

theorem test_hyp_TimerExpiriesMakeStaleOrHalted :
    let braking := flags (withRam.enterBraking 3) (fun _ => PassBook.initial)
    withRam.settled = true ∧ (withRam.claim 3).state = .run ∧ (withRam.claim 3).refreshTimer ≠ .stopped
      ∧ withRam.readBase 3 = (some ram.base, withRam) ∧ (spoilt withRam 3).settled = true
      ∧ (spoilt withRam 3).readBase 3 = (none, spoilt withRam 3) ∧ ((spoilt withRam 3).claim 3).state = .run
      ∧ braking.settled = true ∧ (braking.claim 3).state = .braking ∧ (braking.claim 3).brakeTimer ≠ .stopped
      ∧ (braking.claim 3).stageMap = some ⟨.axis, 2, none⟩ ∧ (withRam.claim 3).brakeTimer = .stopped
      ∧ (braking.claim 3).refreshTimer = .stopped := by
  decide +kernel

theorem test_hyp_SafeOffHoldsGatesOffAndTripsClaims :
    let s := withRam.enterReleasing 3
    s.settled = true ∧ s.inputs.safeOff = false
      ∧ Handle.all.filter (fun h => decide ((s.claim h).state ≠ .unbound ∧ (s.claim h).state ≠ .tripped)) = [3]
      ∧ (∀ h, (s.claim h).state = .releasing → (s.claim h).stageMap.isSome = true)
      ∧ (s.claim 3).stageMap = some ⟨.axis, 2, none⟩ ∧ 4 ∉ (⟨.axis, 2, none⟩ : StageMap).stages := by
  decide +kernel

theorem test_hyp_StageFaultTurnsTheClaimsGatesOff :
    withGantry.settled = true ∧ withGantry.stageFault 1 = false ∧ (withGantry.channel 1).owner = some ⟨1, .partner⟩
      ∧ (withGantry.claim 1).stageMap = some ⟨.pair, 0, some 1⟩ ∧ withGantry.stageFault 11 = false
      ∧ (withGantry.channel 11).owner = none ∧ (withGantry.setStageFault 11 true).stageFault 11 = true := by
  decide +kernel

/-! ### Regulation channels -/

/-- Band 4 is the first at which a list from start band 4 governs; a coefficient of 1 and of 0; a short and a long limit. -/
theorem test_hyp_ReferenceIsLeastOfDemandLimitAndGrant :
    (3 : Band).val < 4 ∧ 4 ≤ (4 : Band).val ∧ [1400, 1100, 900, 750][(4 : Band).val - 4]? = some 1400
      ∧ 4 ≤ (7 : Band).val ∧ [1400, 1100, 900, 750][(7 : Band).val - 4]? = some 750 ∧ 0 < 1
      ∧ (1500 : Int).natAbs * 600 ≤ 1000 * 900 ∧ ¬((1500 : Int).natAbs * 600 ≤ 1000 * 450) := by
  decide

/-- A command beyond 1000 on either side and one short of it, and a PAIR with two stages. -/
theorem test_hyp_CurrentLawClampsAndWithholdsIntegrator :
    let r := record .spindle 3 80 800 2200
    let u (e : Int) := ((r.kp : Int) * e).tdiv 256 + max (-(r.integratorLimit : Int)) (min r.integratorLimit (((r.ki : Int) * e).tdiv 1024))
    1000 < u 600 ∧ u (-600) < -1000 ∧ u 445 = 1001 ∧ u 444 = 999 ∧ u (-444) = -999
      ∧ (⟨.pair, 0, some 1⟩ : StageMap).partner = some 1 ∧ (1 : Stage) ≠ 0 := by
  decide +kernel

/-- The spindle in RUN and the ram in RELEASING one step above the release step, with currents at their trip levels. -/
theorem test_hyp_ExpiryDrivesTheStagesTowardTheReference :
    let s := (withRam.enterReleasing 3).modChannel 2 (fun k => { k with ramped := 26 })
    let at1500 : StageSample := ⟨-1500, 0, 0, 0, 0⟩
    atGrantLimit.settled = true ∧ (atGrantLimit.channel 4).owner = some ⟨0, .primary⟩
      ∧ (atGrantLimit.channel 4).faultHold = false ∧ (atGrantLimit.channel 4).mode = .regulate
      ∧ (atGrantLimit.claim 0).state = .run ∧ (atGrantLimit.claim 0).stageMap = some ⟨.spindle, 4, none⟩
      ∧ atGrantLimit.readRecords 0 .spindle
        = (some (record .spindle 3 80 800 2200, some (.weakening 4 [1400, 1100, 900, 750])), atGrantLimit)
      ∧ s.settled = true ∧ (s.channel 2).owner = some ⟨3, .primary⟩ ∧ (s.channel 2).mode = .regulate
      ∧ (s.channel 2).faultHold = false ∧ (s.claim 3).state = .releasing ∧ (s.claim 3).stageMap = some ⟨.axis, 2, none⟩
      ∧ s.readRecords 3 .axis = (some (ram.base, none), s) ∧ samplePeak at1500 ≤ ram.base.tripLevel
      ∧ rampStep (s.channel 2).ramped ram.base.releaseStep = 1 := by
  decide +kernel

/-- The gantry in RUN, both currents at the trip level, and an imbalance one short of the balance time. -/
theorem test_hyp_ExpiryDrivesTheStagesTowardTheReference_pair :
    let s := withGantry.modChannel 0 (fun k => { k with imbalance := 1 })
    let x (t : Int) : StageSample := ⟨1500, 0, 0, 0, t⟩
    s.settled = true ∧ (s.channel 0).owner = some ⟨1, .primary⟩ ∧ (s.channel 0).mode = .regulate
      ∧ (s.channel 0).faultHold = false ∧ (s.claim 1).state.live = true ∧ (s.claim 1).stageMap = some ⟨.pair, 0, some 1⟩
      ∧ s.readRecords 1 .pair = (some (gantry.base, some (.pair 1 150 3)), s) ∧ samplePeak (x 151) ≤ gantry.base.tripLevel
      ∧ imbalanceAfter (s.channel 0).imbalance 150 151 0 = 2 ∧ imbalanceAfter (s.channel 0).imbalance 150 150 0 = 0 := by
  decide +kernel

/-- A record lost, a phase current one above the trip level, at the stage and at the partner, and a third imbalance. -/
theorem test_hyp_FaultAtExpiryTurnsGatesOffAndReports :
    let s := withGantry.modChannel 0 (fun k => { k with imbalance := 2 })
    let bad := spoilt withGantry 1
    bad.settled = true ∧ (bad.channel 0).owner = some ⟨1, .primary⟩ ∧ (bad.channel 0).mode = .regulate
      ∧ (bad.channel 0).faultHold = false ∧ (bad.claim 1).state.live = true
      ∧ (bad.claim 1).stageMap = some ⟨.pair, 0, some 1⟩ ∧ bad.readRecords 1 .pair = (none, bad)
      ∧ s.readRecords 1 .pair = (some (gantry.base, some (.pair 1 150 3)), s)
      ∧ gantry.base.tripLevel < samplePeak ⟨0, -1501, 0, 0, 0⟩ ∧ ¬(gantry.base.tripLevel < samplePeak ⟨0, -1500, 0, 0, 0⟩)
      ∧ 3 ≤ imbalanceAfter (s.channel 0).imbalance 150 151 0 := by
  decide +kernel

/-- A ramped demand of exactly the release step, on either side of 0. -/
theorem test_hyp_ReleaseRampEndsWithGatesOffAndReport :
    let s := (withRam.enterReleasing 3).modChannel 2 (fun k => { k with ramped := -25 })
    s.settled = true ∧ (s.channel 2).owner = some ⟨3, .primary⟩ ∧ (s.channel 2).faultHold = false
      ∧ (s.channel 2).mode = .regulate ∧ (s.claim 3).state = .releasing ∧ (s.claim 3).stageMap = some ⟨.axis, 2, none⟩
      ∧ s.readRecords 3 .axis = (some (ram.base, none), s) ∧ (s.channel 2).ramped.natAbs ≤ ram.base.releaseStep
      ∧ samplePeak (sample 0) ≤ ram.base.tripLevel ∧ ((25 : Nat) : Int) < 26 ∧ (-26 : Int) < -((25 : Nat) : Int) := by
  decide +kernel

theorem test_hyp_ExpiryInBrakeOrWithoutWork :
    let s := flags (withGantry.enterBraking 1) (fun _ => PassBook.initial)
    withGantry.settled = true ∧ (withGantry.channel 11).owner = none ∧ (withGantry.channel 1).owner = some ⟨1, .partner⟩
      ∧ ((withGantry.onStages (some ⟨.pair, 0, some 1⟩) Channel.hold).channel 0).faultHold = true
      ∧ ((withGantry.enterTripped 1 .safeOff).channel 0).mode = .off ∧ s.settled = true
      ∧ (s.channel 0).owner = some ⟨1, .primary⟩ ∧ (s.channel 0).faultHold = false ∧ (s.channel 0).mode = .brake
      ∧ (s.claim 1).stageMap = some ⟨.pair, 0, some 1⟩ := by
  decide +kernel

/-- Reports of both kinds under way, one of a claim that still owns the stage and one of a claim that does not. -/
theorem test_hyp_ReportsActOnTheClaimThatStillOwnsTheStage :
    let a : Report := ⟨2, 3, .trip .recordLost⟩
    let b : Report := ⟨2, 3, .releaseComplete⟩
    let c : Report := ⟨2, 0, .trip .overcurrent⟩
    let s := { withRam.enterReleasing 3 with reports := [a, b, c] }
    s.settled = true ∧ s.reports = [] ++ a :: [b, c] ∧ s.reports = [a] ++ b :: [c]
      ∧ (a.stage == 2 && a.kind.isTrip) = true ∧ (b.stage == 2 && !b.kind.isTrip) = true
      ∧ (∀ y ∈ [a], (y.stage == 2 && !y.kind.isTrip) = false) ∧ (s.claim 3).stageMap = some ⟨.axis, 2, none⟩
      ∧ 2 ∈ (⟨.axis, 2, none⟩ : StageMap).stages ∧ (s.claim 3).state = .releasing ∧ (s.claim 0).stageMap = none
      ∧ (c.stage == 2 && c.kind.isTrip) = true ∧ (withRam.claim 3).state ≠ .releasing ∧ withRam.reports = [] := by
  decide +kernel

/-! ### The supply -/

/-- A stack with a good top, a live claim and one that is not, and the cut that stays after the fault. -/
theorem test_hyp_SupplyFaultLeavesNoGrantAndNoLiveClaim :
    (deep 2).table.stack = (deep 1).table.stack ++ [⟨Part.written ⟨21, 700, 300, 2⟩, .intact⟩]
      ∧ (withRam.claim 3).state.live = true ∧ (withRam.claim 4).state.live = false
      ∧ ((deep 2).supplyFault 0 0).table.budgets = ⟨0, 0, some 2⟩ := by
  decide +kernel

theorem test_hyp_SupplyFrameIsRecordedAndJudged :
    ready.settled = true ∧ State.reset.table.partState = .unconfigured ∧ State.reset.settled = true
      ∧ ready.table.partState = .ready ∧ ready.monitor.timeout = some 5
      ∧ (ready.monitor.g ≤ 300 ∧ ¬(ready.monitor.g ≤ 299)) ∧ ready.monitor.state = .normal
      ∧ ready.monitor.lastDrive = 1400 ∧ ready.monitor.lastReturn = 1200
      ∧ (let t := ready.faultVerdict .notReady 1400 1200
        t.monitor.state = .fault ∧ t.monitor.reason = some .notReady ∧ t.monitor.reason ≠ some .belowFloor)
      ∧ (let t : State := { ready with monitor := { ready.monitor with state := .absent, reason := none } }
        t.monitor.state ≠ .normal) := by
  decide +kernel

/-- A frame of no characters is bad. -/
theorem test_hyp_SupplyFrameIsRecordedAndJudged_bad (a b : Nat) (x : Bool) :
    let body := octets16 a ++ octets16 b ++ [markOctet x]
    ([] : List LineChar) ≠ clean (body ++ wordOctets (frameCheck body)) := by
  intro body h
  have := congrArg List.length h
  simp [body, clean, octets16, wordOctets] at this

theorem test_hyp_SupplyTimeoutFailsTheSupply :
    let t := flags (ready.faultVerdict .notReady 1400 1200) (fun _ => PassBook.initial)
    ready.settled = true ∧ ready.monitor.timer ≠ .stopped ∧ ready.monitor.state ≠ .fault ∧ State.reset.monitor.timer = .stopped
      ∧ t.settled = true ∧ t.monitor.timer ≠ .stopped ∧ t.monitor.state = .fault ∧ t.monitor.reason ≠ some .timeout := by
  decide +kernel

/-! ### The laws: they hold with the ram bound -/

theorem withRam_maps (h : Handle) (m : StageMap) (hm : (withRam.claim h).stageMap = some m) : h = 3 ∧ m = ⟨.axis, 2, none⟩ := by
  have h3 : h = 3 := by
    have hall : ∀ h, (withRam.claim h).stageMap ≠ none → h = 3 := by decide +kernel
    exact hall h (by rw [hm]; nofun)
  subst h3
  have h2 : (withRam.claim 3).stageMap = some ⟨.axis, 2, none⟩ := by decide +kernel
  exact ⟨rfl, by rw [h2] at hm; exact (Option.some.inj hm).symm⟩

theorem withRam_channelLaw : ChannelLaw withRam := by
  refine ⟨?_, ?_, by decide +kernel, by decide +kernel, by decide +kernel, by decide +kernel, nofun⟩
  · rintro h st role ⟨m, hm, hr⟩
    obtain ⟨rfl, rfl⟩ := withRam_maps h m hm
    rcases hr with ⟨rfl, rfl⟩ | ⟨_, hp⟩
    · decide +kernel
    · cases hp
  · intro st o ho
    have h2 : ∀ st : Stage, (withRam.channel st).owner ≠ none → st = 2 := by decide +kernel
    have hst : st = 2 := h2 st (by rw [ho]; nofun)
    subst hst
    have h3 : (withRam.channel 2).owner = some ⟨3, .primary⟩ := by decide +kernel
    have : o = ⟨3, .primary⟩ := by rw [h3] at ho; exact (Option.some.inj ho).symm
    subst this
    exact ⟨⟨⟨.axis, 2, none⟩, by decide +kernel, .inl ⟨rfl, rfl⟩⟩, by decide +kernel, by decide +kernel⟩

theorem withRam_ledgerLaw : LedgerLaw withRam := by
  refine ⟨by decide +kernel, by decide +kernel, by decide +kernel, by decide +kernel, ?_, by decide +kernel, nofun⟩
  intro h hb
  have h3 : h = 3 := by
    have hall : ∀ h, (withRam.claim h).state ≠ .unbound → h = 3 := by decide +kernel
    exact hall h hb
  subst h3
  exact ⟨Part.written ram.base, by decide +kernel, by decide +kernel, by decide +kernel⟩

theorem withRam_portLaw : PortLaw withRam := by
  refine ⟨by decide +kernel, by decide +kernel, by decide +kernel, by decide +kernel, ?_, ?_, by decide +kernel,
    by decide +kernel⟩
  · intro r hr; cases hr
  · intro r hr; cases hr

/-- The premise of the six invariants: the laws hold, and a step answers a next state. -/
theorem test_hyp_EveryStepKeeps : Laws withRam ∧ PortLaw withRam ∧ step withRam = .next withRam.settle := by
  refine ⟨⟨withRam_portLaw, ?_, withRam_channelLaw, withRam_ledgerLaw, ?_, ⟨by decide +kernel, by decide +kernel, nofun⟩,
    by unfold BudgetLaw; decide +kernel⟩, withRam_portLaw, rfl⟩
  · unfold ClaimLaw Claim.Law
    decide +kernel
  · unfold SupplyLaw
    decide +kernel

theorem test_hyp_LawsHoldAfterReset :
    exec (.powerOnReset ⟨2, true, 0xFFF⟩) withRam = .next (after (.powerOnReset ⟨2, true, 0xFFF⟩) withRam) := rfl

end Sys2Proof.Tests
end

namespace Sys2Proof.Machine

/-! ### The walk of the allotment unit (R92 to R95) -/

/-- Sorting into grant order loses no entry and adds none. -/
theorem grantOrder_perm (es : List SnapshotEntry) : (grantOrder es).Perm es := by
  induction es with
  | nil => exact .refl _
  | cons e es ih => exact (insertInOrder_perm e (grantOrder es)).trans (ih.cons e)

/-- The condition of R93 for an extra, in its own words: a motoring claim within the cut, or exempt from it. -/
theorem SnapshotEntry.mayDraw_iff (e : SnapshotEntry) (cut : Option Nat) :
    e.mayDraw cut = true ↔
      e.side = .drive ∧ ((∃ c, cut = some c ∧ e.level ≤ c) ∨ e.cutExempt = true) := by
  cases cut <;> simp [SnapshotEntry.mayDraw, or_comm]

theorem SnapshotEntry.extra_of_mayDraw (e : SnapshotEntry) (cut : Option Nat) (d : Nat)
    (h : e.mayDraw cut = true) : e.extra cut d = min d (e.estimate - e.floor) := if_pos h

theorem SnapshotEntry.extra_of_not_mayDraw (e : SnapshotEntry) (cut : Option Nat) (d : Nat)
    (h : ¬e.mayDraw cut = true) : e.extra cut d = 0 := if_neg h

/-- The extra never lifts a grant above the estimate. -/
theorem SnapshotEntry.extra_le_excess (e : SnapshotEntry) (cut : Option Nat) (d : Nat) :
    e.extra cut d ≤ e.estimate - e.floor := by
  by_cases h : e.mayDraw cut = true
  · rw [e.extra_of_mayDraw cut d h]
    exact Nat.min_le_right _ _
  · rw [e.extra_of_not_mayDraw cut d h]
    exact Nat.zero_le _

theorem SnapshotEntry.returnGrant_of_ret (e : SnapshotEntry) (r : Nat) (h : e.side = .ret) :
    e.returnGrant r = min e.estimate r := by
  simp [SnapshotEntry.returnGrant, h]

theorem SnapshotEntry.returnGrant_of_drive (e : SnapshotEntry) (r : Nat) (h : e.side = .drive) :
    e.returnGrant r = 0 := by
  simp [SnapshotEntry.returnGrant, h]

/-- A walk can be cut anywhere: what follows is walked with the remainders that what went before has left. -/
theorem walk_append (cut : Option Nat) (es fs : List SnapshotEntry) (d r : Nat) :
    let w := walk cut es d r
    walk cut (es ++ fs) d r =
      (w.1 ++ (walk cut fs w.2.1 w.2.2).1, (walk cut fs w.2.1 w.2.2).2) := by
  induction es generalizing d r with
  | nil => rfl
  | cons e es ih => simp only [List.cons_append, walk_cons, ih]

theorem walk_grants_length (cut : Option Nat) (es : List SnapshotEntry) (d r : Nat) :
    (walk cut es d r).1.length = es.length := by
  induction es generalizing d r with
  | nil => rfl
  | cons e es ih => simp only [walk_cons, List.length_cons, ih]

theorem walk_driveLeft_le (cut : Option Nat) (es : List SnapshotEntry) (d r : Nat) :
    (walk cut es d r).2.1 ≤ d := by
  induction es generalizing d r with
  | nil => exact Nat.le_refl _
  | cons e es ih => exact (ih _ _).trans (Nat.sub_le _ _)

/-- What the drive grants hold beyond the floors is what the drive remainder has lost (R93). -/
theorem walk_drive_sum (cut : Option Nat) (es : List SnapshotEntry) (d r : Nat) :
    ((walk cut es d r).1.map (·.drive)).sum + (walk cut es d r).2.1 = (es.map (·.floor)).sum + d := by
  induction es generalizing d r with
  | nil => rfl
  | cons e es ih =>
    have hrest := ih (d - e.extra cut d) (r - e.returnGrant r)
    have hextra := e.extra_le cut d
    simp only [walk_cons, List.map_cons, List.sum_cons]
    omega

/-- What the return grants hold is what the return remainder has lost (R94). -/
theorem walk_ret_sum (cut : Option Nat) (es : List SnapshotEntry) (d r : Nat) :
    ((walk cut es d r).1.map (·.ret)).sum + (walk cut es d r).2.2 = r := by
  induction es generalizing d r with
  | nil => simp
  | cons e es ih =>
    have hrest := ih (d - e.extra cut d) (r - e.returnGrant r)
    have hgrant := e.returnGrant_le r
    simp only [walk_cons, List.map_cons, List.sum_cons]
    omega

/-- The walk of a snapshot's entries up to some place of its grant order. -/
def Snapshot.walkTo (sn : Snapshot) (before : List SnapshotEntry) : List GrantLine × Nat × Nat :=
  walk sn.budgets.cut before (sn.budgets.drive - sn.floors) sn.budgets.ret

/-- The computation of a pass seen from one claim's place in grant order: the grants before it, its own from the remainders
it finds, and the walk of the claims behind it. -/
theorem Snapshot.compute_at (sn : Snapshot) (before behind : List SnapshotEntry) (e : SnapshotEntry)
    (hplace : grantOrder sn.entries = before ++ e :: behind) :
    let w := sn.walkTo before
    let rest := walk sn.budgets.cut behind (w.2.1 - e.extra sn.budgets.cut w.2.1) (w.2.2 - e.returnGrant w.2.2)
    sn.compute.grants = w.1 ++ ⟨e.handle, e.floor + e.extra sn.budgets.cut w.2.1, e.returnGrant w.2.2⟩ :: rest.1
      ∧ sn.compute.driveRemainder = rest.2.1 := by
  simp only [Snapshot.compute_eq, hplace, walk_append, walk_cons, Snapshot.walkTo, and_self]

/-- The drive remainder a claim finds, from the grants before it: each has taken what it holds beyond its floor. -/
theorem Snapshot.walkTo_driveLeft (sn : Snapshot) (before : List SnapshotEntry) :
    (sn.walkTo before).2.1 = sn.budgets.drive - sn.floors
      - (((sn.walkTo before).1.map (·.drive)).sum - (before.map (·.floor)).sum) := by
  have hsum := walk_drive_sum sn.budgets.cut before (sn.budgets.drive - sn.floors) sn.budgets.ret
  have hle := walk_driveLeft_le sn.budgets.cut before (sn.budgets.drive - sn.floors) sn.budgets.ret
  unfold Snapshot.walkTo
  omega

/-- The return remainder a claim finds, from the grants before it. -/
theorem Snapshot.walkTo_returnLeft (sn : Snapshot) (before : List SnapshotEntry) :
    (sn.walkTo before).2.2 = sn.budgets.ret - ((sn.walkTo before).1.map (·.ret)).sum :=
  Nat.eq_sub_of_add_eq' (walk_ret_sum _ _ _ _)

/-- Settles O36: the grants before a claim's place fix the remainders it finds there, and R93 and R94 are read off its own
line of the walk. -/
theorem grantsOfAPassFollowRemaindersInOrder : Obligations.GrantsOfAPassFollowRemaindersInOrder := by
  intro sn before e behind hplace earlier floors driveLeft returnLeft mayDraw
  obtain ⟨hgrants, -⟩ := sn.compute_at before behind e hplace
  have hlen : (sn.walkTo before).1.length = before.length := walk_grants_length _ _ _ _
  have hearlier : earlier = (sn.walkTo before).1 := by
    simp only [earlier, hgrants, ← hlen, List.take_left]
  have hdrive : (sn.walkTo before).2.1 = driveLeft := by
    simp only [driveLeft, hearlier]
    exact sn.walkTo_driveLeft before
  have hret : (sn.walkTo before).2.2 = returnLeft := by
    simp only [returnLeft, hearlier]
    exact sn.walkTo_returnLeft before
  have hmay : e.mayDraw sn.budgets.cut = true ↔ mayDraw := e.mayDraw_iff _
  rw [hdrive, hret] at hgrants
  refine ⟨e.floor + e.extra sn.budgets.cut driveLeft, e.returnGrant returnLeft, ?_, ?_, ?_, ?_, ?_, ?_, ?_⟩
  · simp [hgrants, ← hlen]
  · intro h
    rw [e.extra_of_mayDraw _ _ (hmay.mpr h)]
  · intro h
    rw [e.extra_of_not_mayDraw _ _ (mt hmay.mp h), Nat.add_zero]
  · exact Nat.le_add_right _ _
  · have := e.extra_le_excess sn.budgets.cut driveLeft
    omega
  · exact e.returnGrant_of_ret _
  · exact e.returnGrant_of_drive _

/-- The drive grants and the drive slack make up the drive budget (R95); R92 puts the floors within it. -/
theorem Snapshot.compute_drive_sum (sn : Snapshot) (hfloors : sn.floors ≤ sn.budgets.drive) :
    (sn.compute.grants.map (·.drive)).sum + sn.compute.driveRemainder = sn.budgets.drive := by
  have hsame : ((grantOrder sn.entries).map (·.floor)).sum = sn.floors :=
    ((grantOrder_perm sn.entries).map _).sum_eq
  calc (sn.compute.grants.map (·.drive)).sum + sn.compute.driveRemainder
    _ = ((grantOrder sn.entries).map (·.floor)).sum + (sn.budgets.drive - sn.floors) := walk_drive_sum _ _ _ _
    _ = sn.floors + (sn.budgets.drive - sn.floors) := by rw [hsame]
    _ = sn.budgets.drive := Nat.add_sub_cancel' hfloors

/-- The return grants and the return slack make up the return budget (R95). -/
theorem Snapshot.compute_ret_sum (sn : Snapshot) :
    (sn.compute.grants.map (·.ret)).sum + sn.compute.returnRemainder = sn.budgets.ret :=
  walk_ret_sum _ _ _ _

/-- With no claim in the snapshot nothing is walked, and both budgets are left over. -/
theorem Snapshot.compute_of_empty (sn : Snapshot) (hnone : sn.entries = []) :
    sn.compute = ⟨sn, sn.budgets.drive, sn.budgets.ret, []⟩ := by
  simp [Snapshot.compute_eq, Snapshot.floors, hnone, grantOrder]

/-- A drive remainder left at the end was not used up at any place before, so each claim that may draw had its whole excess
over the floor (R95). -/
theorem Snapshot.grant_of_driveSlack (sn : Snapshot) (hslack : 0 < sn.compute.driveRemainder) (e : SnapshotEntry)
    (hmem : e ∈ sn.entries) (hmay : e.mayDraw sn.budgets.cut = true) :
    ∃ ret, ⟨e.handle, max e.floor e.estimate, ret⟩ ∈ sn.compute.grants := by
  obtain ⟨before, behind, hplace⟩ := List.append_of_mem ((grantOrder_perm sn.entries).mem_iff.mpr hmem)
  obtain ⟨hgrants, hleft⟩ := sn.compute_at before behind e hplace
  have hunspent : 0 < (sn.walkTo before).2.1 - e.extra sn.budgets.cut (sn.walkTo before).2.1 :=
    (hleft ▸ hslack).trans_le (walk_driveLeft_le _ _ _ _)
  have hfull : e.floor + e.extra sn.budgets.cut (sn.walkTo before).2.1 = max e.floor e.estimate := by
    rw [e.extra_of_mayDraw _ _ hmay] at hunspent ⊢
    omega
  refine ⟨e.returnGrant (sn.walkTo before).2.2, ?_⟩
  rw [hgrants, ← hfull]
  exact List.mem_append_right _ List.mem_cons_self

/-- Settles O37: the sums kept along the walk give both budgets, and an unspent remainder shows that no extra was bounded by
it. -/
theorem grantsAndSlackMakeUpTheBudget : Obligations.GrantsAndSlackMakeUpTheBudget := by
  intro sn hfloors
  refine ⟨sn.compute_drive_sum hfloors, sn.compute_ret_sum, ?_, ?_⟩
  · intro hnone
    simp [sn.compute_of_empty hnone]
  · intro hslack e hmem c hside hcut hlevel
    exact sn.grant_of_driveSlack hslack e hmem ((e.mayDraw_iff _).mpr ⟨hside, .inl ⟨c, hcut, hlevel⟩⟩)

end Sys2Proof.Machine

namespace Sys2Proof.Machine

/-! ### The attention line (R188) -/

theorem State.attention_iff (s : State) : s.attention = true ↔ s.link.notices ≠ [] := by
  simp [State.attention]

theorem State.attention_eq_false_iff (s : State) : s.attention = false ↔ s.link.notices = [] := by
  simp [State.attention]

/-- After a post the FIFO holds a notice: the one posted, or those for which it was dropped (R186). -/
theorem LinkPort.post_notices_ne_nil (l : LinkPort) (n : Notice) : (l.post n).notices ≠ [] := by
  by_cases hroom : l.notices.length < Config.noticePlaces
  · rw [LinkPort.post, if_pos hroom]
    exact List.append_ne_nil_of_right_ne_nil _ (List.cons_ne_nil _ _)
  · rw [LinkPort.post, if_neg hroom]
    rintro (hempty : l.notices = [])
    simp [hempty, Config.noticePlaces] at hroom

theorem State.attention_post (s : State) (n : Notice) : (s.post n).attention = true :=
  (s.post n).attention_iff.mpr (s.link.post_notices_ne_nil n)

/-- A READ-NOTICE of an empty FIFO answers EMPTY and changes nothing (R187). -/
theorem readNoticeAtPort_of_nil (s : State) (h : s.link.notices = []) : readNoticeAtPort s = ⟨.empty, [], s⟩ := by
  simp only [readNoticeAtPort, h]

/-- A READ-NOTICE takes the oldest notice alone (R187). -/
theorem readNoticeAtPort_of_cons (s : State) (n : Notice) (rest : List Notice) (h : s.link.notices = n :: rest) :
    readNoticeAtPort s = ⟨.ok, n.octets, { s with link := { s.link with notices := rest } }⟩ := by
  simp only [readNoticeAtPort, h]

/-- After a READ-NOTICE the line shows whether a notice stood behind the one read. -/
theorem readNoticeAtPort_attention_iff (s : State) (n : Notice) (rest : List Notice) (h : s.link.notices = n :: rest) :
    (readNoticeAtPort s).state.attention = true ↔ rest ≠ [] := by
  rw [readNoticeAtPort_of_cons s n rest h, State.attention_iff]

/-- A RESET-LINK empties the FIFO (R173). -/
theorem resetLinkAtPort_attention (s : State) : (resetLinkAtPort s).state.attention = false :=
  (State.attention_eq_false_iff _).mpr rfl

/-- The FIFO is empty after a power-on reset (R175). -/
theorem State.afterReset_attention (straps : BitVec 2) (inputs : Inputs) :
    (State.afterReset straps inputs).attention = false :=
  (State.attention_eq_false_iff _).mpr rfl

/-- Settles O10: a post leaves a notice in the FIFO, a READ-NOTICE leaves those behind the oldest, and both resets leave
none. -/
theorem attentionLineFollowsNoticeFifo : Obligations.AttentionLineFollowsNoticeFifo := by
  refine ⟨State.attention_iff, State.attention_post, ?_, ?_, ?_, resetLinkAtPort_attention, ?_, State.afterReset_attention⟩
  · intro s n hlast
    exact Bool.eq_false_iff.mpr fun hline => (readNoticeAtPort_attention_iff s n [] hlast).mp hline rfl
  · intro s n m rest hmore
    exact (readNoticeAtPort_attention_iff s n (m :: rest) hmore).mpr (List.cons_ne_nil m rest)
  · intro s hnone
    rw [readNoticeAtPort_of_nil s hnone]
  · intro s n
    exact ⟨State.attention_post _ n, resetLinkAtPort_attention _⟩

end Sys2Proof.Machine

namespace Sys2Proof.Machine

/-! ### What the table does at the port: notices, and nothing else -/

/-- The port `l'` is the port `l` after some notices have been posted. -/
def LinkPort.Noticed (l l' : LinkPort) : Prop := ∃ ns : List Notice, l' = ns.foldl LinkPort.post l

theorem LinkPort.Noticed.refl (l : LinkPort) : l.Noticed l := ⟨[], rfl⟩

theorem LinkPort.Noticed.of_eq {l l' : LinkPort} (h : l' = l) : l.Noticed l' := ⟨[], h⟩

theorem LinkPort.Noticed.trans {l l' l'' : LinkPort} (h : l.Noticed l') (h' : l'.Noticed l'') : l.Noticed l'' := by
  obtain ⟨ns, rfl⟩ := h
  obtain ⟨ms, rfl⟩ := h'
  exact ⟨ns ++ ms, (List.foldl_append ..).symm⟩

theorem LinkPort.Noticed.post {l l' : LinkPort} (h : l.Noticed l') (n : Notice) : l.Noticed (l'.post n) :=
  h.trans ⟨[n], rfl⟩

/-- Whatever one notice keeps, several keep. -/
theorem LinkPort.Noticed.keeps {P : LinkPort → Prop} (hP : ∀ l n, P l → P (l.post n)) {l l' : LinkPort}
    (h : l.Noticed l') (hl : P l) : P l' := by
  obtain ⟨ns, rfl⟩ := h
  induction ns generalizing l with
  | nil => exact hl
  | cons n ns ih => exact ih (hP l n hl)

theorem LinkPort.Noticed.urgent {l l' : LinkPort} (h : l.Noticed l') : l'.urgent = l.urgent :=
  h.keeps (P := fun x => x.urgent = l.urgent) (by simp) rfl

theorem LinkPort.Noticed.normal {l l' : LinkPort} (h : l.Noticed l') : l'.normal = l.normal :=
  h.keeps (P := fun x => x.normal = l.normal) (by simp) rfl

/-- The next request is found in the queues alone. -/
theorem LinkPort.Noticed.next_isSome {l l' : LinkPort} (h : l.Noticed l') : l'.next.isSome = l.next.isSome := by
  simp only [LinkPort.next, h.urgent, h.normal]
  rcases l.urgent with _ | _ <;> rcases l.normal with _ | _ <;> rfl

/-! ### Notices of the shared operations -/

theorem State.post_noticed (s : State) (n : Notice) : s.link.Noticed (s.post n).link := (LinkPort.Noticed.refl _).post n

theorem State.readBase_noticed (s : State) (h : Handle) : s.link.Noticed (s.readBase h).2.link := by
  rcases s.readBase_cases h with e | ⟨_, _, _, _, _, e⟩ <;> rw [e]
  · exact .refl _
  · exact State.post_noticed _ _

theorem State.readOptional_noticed (s : State) (h : Handle) : s.link.Noticed (s.readOptional h).2.link := by
  rcases s.readOptional_cases h with e | ⟨_, _, _, _, _, e⟩ <;> rw [e]
  · exact .refl _
  · exact State.post_noticed _ _

theorem State.readEnvelope_noticed (s : State) (depth : Nat) : s.link.Noticed (s.readEnvelope depth).2.link := by
  rcases s.readEnvelope_cases depth with e | ⟨_, _, _, e | e⟩ <;> rw [e]
  · exact .refl _
  · exact State.post_noticed _ _
  · exact State.post_noticed _ _

theorem State.enterTripped_noticed (s : State) (h : Handle) (r : TripReason) :
    s.link.Noticed (s.enterTripped h r).link := by
  unfold State.enterTripped
  dsimp only
  split
  · simpa using (LinkPort.Noticed.refl s.link).post _
  · exact .refl _

theorem State.recordLost_noticed (s : State) (h : Handle) : s.link.Noticed (s.recordLost h).link := by
  unfold State.recordLost
  dsimp only
  split
  · exact State.enterTripped_noticed _ _ _
  · exact .refl _

theorem State.tableRead_noticed (s : State) (h : Handle) : s.link.Noticed (s.tableRead h).2.link := by
  rw [s.tableRead_eq h]
  rcases (s.readBase h).1 with _ | r
  · exact (s.readBase_noticed h).trans (State.recordLost_noticed _ _)
  · exact s.readBase_noticed h

theorem State.enterBraking_noticed (s : State) (h : Handle) : s.link.Noticed (s.enterBraking h).link := by
  have e := s.tableRead_noticed h
  unfold State.enterBraking
  split <;> simp_all

theorem State.brakeAll_noticed (s : State) (hs : List Handle) : s.link.Noticed (s.brakeAll hs).2.link := by
  induction hs generalizing s with
  | nil => exact .refl _
  | cons h hs ih =>
    rw [State.brakeAll_cons]
    split
    · exact (s.enterBraking_noticed h).trans (ih _)
    · exact ih s

theorem State.enterHalted_noticed (s : State) (h : Handle) : s.link.Noticed (s.enterHalted h).link := by
  simpa [State.enterHalted] using (LinkPort.Noticed.refl s.link).post _

theorem State.freeClaim_noticed (s : State) (h : Handle) : s.link.Noticed (s.freeClaim h).link := by
  simpa [State.freeClaim] using (LinkPort.Noticed.refl s.link).post _

theorem State.formBudgets_noticed (s : State) : s.link.Noticed s.formBudgets.2.link := by
  unfold State.formBudgets
  split
  · exact .refl _
  · simp only
    split <;> exact s.readEnvelope_noticed _

theorem State.recompute_noticed (s : State) : s.link.Noticed s.recompute.link := by
  simpa [State.recompute] using s.formBudgets_noticed

theorem State.readEnvelopeAndRecompute_noticed (s : State) (depth : Nat) :
    s.link.Noticed (s.readEnvelopeAndRecompute depth).2.link := by
  have e := s.readEnvelope_noticed depth
  unfold State.readEnvelopeAndRecompute
  split
  · simp_all
  · exact (by simp_all : s.link.Noticed _).trans (State.recompute_noticed _)
  · simp_all

theorem State.supplyFault_noticed (s : State) (d r : Nat) : s.link.Noticed (s.supplyFault d r).link := by
  unfold State.supplyFault
  dsimp only
  refine (State.formBudgets_noticed (s.setStanding ⟨.fault, d, r⟩)).trans ?_
  refine LinkPort.Noticed.trans (.of_eq ?_) (State.brakeAll_noticed _ _)
  simp

/-! ### Notices of the requests -/

theorem takeBind_noticed (s : State) (h : Handle) (b : BindFields) : s.link.Noticed (takeBind s h b).link := by
  unfold takeBind
  dsimp only
  split
  · unfold State.tripIfFaulted
    split
    · exact LinkPort.Noticed.trans (by simpa [State.done] using (LinkPort.Noticed.refl s.link).post _)
        (State.enterTripped_noticed _ _ _)
    · simpa [State.done] using (LinkPort.Noticed.refl s.link).post _
  · exact State.post_noticed _ _

theorem takeModify_noticed (s : State) (h : Handle) (m : ModifyFields) : s.link.Noticed (takeModify s h m).link := by
  have e := s.tableRead_noticed h
  unfold takeModify
  dsimp only
  split
  · exact State.post_noticed _ _
  split
  · exact State.post_noticed _ _
  split
  · simpa [State.done] using LinkPort.Noticed.post (by simp_all) _
  split
  · split <;> simpa [State.done] using LinkPort.Noticed.post (by simp_all) _
  · simpa [State.done] using LinkPort.Noticed.post (by simp_all) _

theorem takeRetire_noticed (s : State) (h : Handle) : s.link.Noticed (takeRetire s h).link := by
  unfold takeRetire
  dsimp only
  split
  case h_6 => exact (s.freeClaim_noticed h).post _
  case h_7 => exact (s.freeClaim_noticed h).post _
  all_goals simpa [State.done] using (LinkPort.Noticed.refl s.link).post _

theorem takeResume_noticed (s : State) (h : Handle) : s.link.Noticed (takeResume s h).link := by
  unfold takeResume
  dsimp only
  split <;> simpa [State.done] using (LinkPort.Noticed.refl s.link).post _

theorem takePush_noticed (s : State) (h : Handle) (e : Envelope) : s.link.Noticed (takePush s h e).link := by
  unfold takePush
  dsimp only
  split
  · exact (LinkPort.Noticed.trans (.of_eq rfl) (State.recompute_noticed (s.pushEntry e))).post _
  · exact State.post_noticed _ _

theorem takePop_noticed (s : State) (h : Handle) (tag : Nat) : s.link.Noticed (takePop s h tag).link := by
  have e := s.readEnvelopeAndRecompute_noticed s.table.stack.length
  unfold takePop
  dsimp only
  split
  · exact State.post_noticed _ _
  have popped (t : State) (ht : s.link.Noticed t.link) (n : Notice) : s.link.Noticed (t.popEntry.recompute.post n).link :=
    (ht.trans (.trans (.of_eq rfl) (State.recompute_noticed t.popEntry))).post n
  split
  · split
    · exact popped _ (by simp_all) _
    · exact LinkPort.Noticed.post (by simp_all) _
  · exact popped _ (by simp_all) _

/-- What a request does at the port is to post notices. -/
theorem State.actOn_noticed (s : State) (r : Request) : s.link.Noticed (s.actOn r).link := by
  unfold State.actOn
  split
  · exact takeBind_noticed _ _ _
  · exact takeModify_noticed _ _ _
  · exact takeRetire_noticed _ _
  · exact takeResume_noticed _ _
  · exact takePush_noticed _ _ _
  · exact takePop_noticed _ _ _

theorem readForPass_noticed (acc : List SnapshotEntry × State) (h : Handle) :
    acc.2.link.Noticed (readForPass acc h).2.link := by
  have e := acc.2.tableRead_noticed h
  unfold readForPass
  split
  · split <;> simp_all
  · exact .refl _

theorem readsForPass_noticed (acc : List SnapshotEntry × State) (hs : List Handle) :
    acc.2.link.Noticed (hs.foldl readForPass acc).2.link := by
  induction hs generalizing acc with
  | nil => exact .refl _
  | cons h hs ih => exact (readForPass_noticed acc h).trans (ih _)

theorem State.startPass_noticed (s : State) : s.link.Noticed s.startPass.link := by
  simpa [State.startPass] using readsForPass_noticed ([], s) Handle.all

/-! ### What is due at the table (R88, R105; log 3) -/

/-- The number of waiting requests. -/
def LinkPort.waiting (l : LinkPort) : Nat := l.urgent.length + l.normal.length

theorem LinkPort.Noticed.waiting {l l' : LinkPort} (h : l.Noticed l') : l'.waiting = l.waiting := by
  simp only [LinkPort.waiting, h.urgent, h.normal]

theorem LinkPort.next_waiting {l l' : LinkPort} {r : Request} (h : l.next = some (r, l')) :
    l.waiting = l'.waiting + 1 := by
  rcases (l.next_eq_some l' r).1 h with ⟨rest, hu, rfl⟩ | ⟨hu, rest, hn, rfl⟩
  · simp only [LinkPort.waiting, hu, List.length_cons]; omega
  · simp only [LinkPort.waiting, hu, hn, List.length_nil, List.length_cons]; omega

theorem LinkPort.next_eq_none_iff_waiting (l : LinkPort) : l.next = none ↔ l.waiting = 0 := by
  simp only [l.next_eq_none, LinkPort.waiting, Nat.add_eq_zero_iff, List.length_eq_zero_iff]

theorem State.takeNext_of_next {s : State} {r : Request} {l : LinkPort} (h : s.link.next = some (r, l)) :
    s.takeNext = ({ s with link := l } : State).actOn r := by
  simp only [State.takeNext, h]

/-- A taking leaves one request less. -/
theorem State.takeNext_waiting {s : State} {r : Request} {l : LinkPort} (h : s.link.next = some (r, l)) :
    s.link.waiting = s.takeNext.link.waiting + 1 := by
  rw [State.takeNext_of_next h, (State.actOn_noticed _ r).waiting]
  exact LinkPort.next_waiting h

/-- After a start nothing is due: a pass is in flight. -/
theorem State.startPass_settled (s : State) : s.startPass.settled = true := by
  simp [State.settled, State.passDue, State.tableIdle, State.startPass]

/-- With nothing due, settling changes nothing. -/
theorem State.settleWith_of_settled (n : Nat) (s : State) (h : s.settled = true) : State.settleWith n s = s := by
  have hdue : s.passDue = false := by simp_all [State.settled]
  cases n with
  | zero => simp [State.settleWith, hdue]
  | succ n =>
    unfold State.settleWith
    rw [if_neg (by simp [hdue])]
    split
    · split
      · rfl
      · simp_all [State.settled]
    · rfl

/-- As many takings as requests wait leave nothing due. -/
theorem State.settleWith_settled (n : Nat) (s : State) (h : s.link.waiting ≤ n) : (State.settleWith n s).settled = true := by
  induction n generalizing s with
  | zero =>
    have hnone : s.link.next = none := s.link.next_eq_none_iff_waiting.2 (Nat.le_zero.1 h)
    unfold State.settleWith
    split
    · exact s.startPass_settled
    · simp_all [State.settled]
  | succ n ih =>
    unfold State.settleWith
    split
    · exact s.startPass_settled
    split
    · split
      · simp_all [State.settled]
      · rename_i hnext
        have := State.takeNext_waiting hnext
        exact ih _ (by omega)
    · simp_all [State.settled]

theorem State.settle_settled (s : State) : s.settle.settled = true := s.settleWith_settled _ (Nat.le_refl _)

theorem State.settle_of_settled {s : State} (h : s.settled = true) : s.settle = s := s.settleWith_of_settled _ h

theorem State.settle_settle (s : State) : s.settle.settle = s.settle := State.settle_of_settled s.settle_settled

/-! ### The table's own steps as commands -/

/-- The command that takes a request. -/
def RequestBody.taking : RequestBody → Instr
  | .bind _ => .bindTaken
  | .modify _ => .modifyTaken
  | .retire => .retireTaken
  | .resume => .resumeTaken
  | .push _ => .pushTaken
  | .pop _ => .popTaken

theorem RequestBody.taking_isOwnStep (b : RequestBody) : b.taking.isOwnStep = true := by cases b <;> rfl

theorem RequestBody.verb_taking (b : RequestBody) : b.verb.taking = some b.taking := by cases b <;> rfl

/-- The command of a taking: the next request of its verb is taken, when that is due (R105, R110). -/
theorem exec_taking {v : Verb} {c : Instr} (h : v.taking = some c) (s : State) : exec c s = .next (s.takeIfDue v) := by
  cases v <;> cases h <;> rfl

/-- At an idle table the taking of the next request's verb is due. -/
theorem State.takeIfDue_of_next {s : State} {r : Request} {l : LinkPort} (hi : s.tableIdle = true)
    (h : s.link.next = some (r, l)) : s.takeIfDue r.body.verb = s.takeNext := by
  simp [State.takeIfDue, h, hi]

theorem exec_passStart_of_due {s : State} (h : s.passDue = true) : exec .passStart s = .next s.startPass := by
  show Host.Outcome.next (if s.passDue then s.startPass else s) = _
  rw [if_pos h]

/-- What settling does is a run of the table's own steps. -/
theorem State.settleWith_run (n : Nat) (s : State) :
    ∃ cs : List Instr, (∀ c ∈ cs, c.isOwnStep = true) ∧ runAll cs s = .next (State.settleWith n s) := by
  have start (u : State) (hu : u.passDue = true) :
      ∃ cs : List Instr, (∀ c ∈ cs, c.isOwnStep = true) ∧ runAll cs u = .next u.startPass :=
    ⟨[.passStart], by simp [Instr.isOwnStep], by simp [runAll, exec_passStart_of_due hu]⟩
  induction n generalizing s with
  | zero =>
    unfold State.settleWith
    split
    · exact start s ‹_›
    · exact ⟨[], by simp, rfl⟩
  | succ n ih =>
    unfold State.settleWith
    split
    · exact start s ‹_›
    split
    · rename_i hidle
      split
      · exact ⟨[], by simp, rfl⟩
      · rename_i x hnext
        obtain ⟨cs, hown, hrun⟩ := ih s.takeNext
        refine ⟨x.1.body.taking :: cs, ?_, ?_⟩
        · simpa [x.1.body.taking_isOwnStep] using hown
        · simp [runAll, exec_taking x.1.body.verb_taking, State.takeIfDue_of_next hidle hnext, hrun]
    · exact ⟨[], by simp, rfl⟩

/-- What is due at the table is done before an event (log 3). -/
theorem exec_settle {c : Instr} (hc : c.isEvent = true) (s : State) : exec c s = exec c s.settle := by
  have frame (f : PortFrame) : s.takeFrame f = s.settle.takeFrame f := by
    simp only [State.takeFrame, State.settle_settle]
  have verb (v : Verb) (f : Frame) : exec (v.instr f) s = exec (v.instr f) s.settle := by
    rw [exec_instr, exec_instr, frame]
  cases c with
  | powerOnReset | passStart | bindTaken | modifyTaken | retireTaken | resumeTaken | pushTaken | popTaken => cases hc
  | demand f => exact verb .demand f
  | cycle f => exact verb .cycle f
  | stop f => exact verb .stop f
  | lookup f => exact verb .lookup f
  | status f => exact verb .status f
  | readNotice f => exact verb .readNotice f
  | configure f => exact verb .configure f
  | resetLink f => exact verb .resetLink f
  | bind f => exact verb .bind f
  | modify f => exact verb .modify f
  | retire f => exact verb .retire f
  | resume f => exact verb .resume f
  | push f => exact verb .push f
  | pop f => exact verb .pop f
  | headerError f | passedOverFrame f => exact congrArg Host.Outcome.next (frame f.toPort)
  | unknownVerb code f => exact congrArg Host.Outcome.next (frame (f.withCode code))
  | passCompletion | refreshTimerExpiry | brakeTimerExpiry | regulationExpiry | tripReport | releaseCompletion
  | stageFaultAsserted | stageFaultReleased | safeOffAsserted | safeOffReleased | supplyFrame | supplyTimeoutExpiry
  | cellUpset =>
    simp only [exec, execPassCompletion, execRefreshTimerExpiry, execBrakeTimerExpiry, execRegulationExpiry,
      execTripReport, execReleaseCompletion, execStageFaultAsserted, execStageFaultReleased, execSafeOffAsserted,
      execSafeOffReleased, execSupplyFrame, execSupplyTimeoutExpiry, execCellUpset, State.settle_settle]

/-- Settles O3: settling ends with nothing due, so that settling again does nothing, and each of its moves is PASS_START or
the taking of the next request. -/
theorem everyEventFindsNothingDue : Obligations.EveryEventFindsNothingDue := by
  refine ⟨?_, fun c s hc => exec_settle hc s, fun s => ⟨s.settle_settled, State.settle_of_settled⟩, ?_⟩
  · intro s hs
    simp only [step, hs]
  · intro s
    exact s.settleWith_run _

/-- Settles O1. -/
theorem stepTakesFrontCommand : Obligations.StepTakesFrontCommand := by
  intro c rest s
  rfl

end Sys2Proof.Machine

namespace Sys2Proof.Machine

/-! ### Entries, channels and records read through an update of another block -/

@[simp] theorem State.claim_post (s : State) (n : Notice) (h : Handle) : (s.post n).claim h = s.claim h := rfl
@[simp] theorem State.claim_callForPass (s : State) (h : Handle) : s.callForPass.claim h = s.claim h := rfl
@[simp] theorem State.claim_setChannel (s : State) (st : Stage) (k : Channel) (h : Handle) :
    (s.setChannel st k).claim h = s.claim h := rfl
@[simp] theorem State.claim_modChannel (s : State) (st : Stage) (f : Channel → Channel) (h : Handle) :
    (s.modChannel st f).claim h = s.claim h := rfl
@[simp] theorem State.claim_setRecords (s : State) (k : Handle) (r : ClaimRecords) (h : Handle) :
    (s.setRecords k r).claim h = s.claim h := rfl
@[simp] theorem State.claim_countRepair (s : State) (n : Notice) (h : Handle) : (s.countRepair n).claim h = s.claim h := rfl
@[simp] theorem State.claim_report (s : State) (st : Stage) (k : Handle) (r : ReportKind) (h : Handle) :
    (s.report st k r).claim h = s.claim h := rfl
@[simp] theorem State.claim_setEntry (s : State) (d : Nat) (e : StackEntry) (h : Handle) :
    (s.setEntry d e).claim h = s.claim h := rfl
@[simp] theorem State.claim_onStages (s : State) (m : Option StageMap) (f : Channel → Channel) (h : Handle) :
    (s.onStages m f).claim h = s.claim h := State.claim_congr (s.onStages_claims m f) h
@[simp] theorem State.claim_abandonRamp (s : State) (k : Handle) (c : Claim) (h : Handle) :
    (s.abandonRamp k c).claim h = s.claim h := State.claim_congr (s.abandonRamp_claims k c) h
@[simp] theorem State.claim_voidPass (s : State) (h : Handle) : s.voidPass.claim h = s.claim h :=
  State.claim_congr s.voidPass_claims h
@[simp] theorem State.claim_readBase (s : State) (k h : Handle) : (s.readBase k).2.claim h = s.claim h :=
  State.claim_congr (s.readBase_claims k) h
@[simp] theorem State.claim_readOptional (s : State) (k h : Handle) : (s.readOptional k).2.claim h = s.claim h :=
  State.claim_congr (s.readOptional_claims k) h
@[simp] theorem State.claim_readEnvelope (s : State) (d : Nat) (h : Handle) : (s.readEnvelope d).2.claim h = s.claim h :=
  State.claim_congr (s.readEnvelope_claims d) h
@[simp] theorem State.claim_formBudgets (s : State) (h : Handle) : s.formBudgets.2.claim h = s.claim h :=
  State.claim_congr s.formBudgets_claims h

@[simp] theorem State.channel_post (s : State) (n : Notice) (st : Stage) : (s.post n).channel st = s.channel st := rfl
@[simp] theorem State.channel_callForPass (s : State) (st : Stage) : s.callForPass.channel st = s.channel st := rfl
@[simp] theorem State.channel_setClaim (s : State) (h : Handle) (c : Claim) (st : Stage) :
    (s.setClaim h c).channel st = s.channel st := rfl
@[simp] theorem State.channel_setRecords (s : State) (h : Handle) (r : ClaimRecords) (st : Stage) :
    (s.setRecords h r).channel st = s.channel st := rfl
@[simp] theorem State.channel_mapClaims (s : State) (f : Claim → Claim) (st : Stage) :
    (s.mapClaims f).channel st = s.channel st := rfl
@[simp] theorem State.channel_report (s : State) (x : Stage) (h : Handle) (k : ReportKind) (st : Stage) :
    (s.report x h k).channel st = s.channel st := rfl
@[simp] theorem State.channel_readBase (s : State) (h : Handle) (st : Stage) :
    (s.readBase h).2.channel st = s.channel st := State.channel_congr (s.readBase_channels h) st
@[simp] theorem State.channel_readOptional (s : State) (h : Handle) (st : Stage) :
    (s.readOptional h).2.channel st = s.channel st := State.channel_congr (s.readOptional_channels h) st

@[simp] theorem State.recordsOf_setClaim (s : State) (h k : Handle) (c : Claim) :
    (s.setClaim h c).recordsOf k = s.recordsOf k := rfl
@[simp] theorem State.recordsOf_post (s : State) (n : Notice) (k : Handle) : (s.post n).recordsOf k = s.recordsOf k := rfl
@[simp] theorem State.recordsOf_countRepair (s : State) (n : Notice) (k : Handle) :
    (s.countRepair n).recordsOf k = s.recordsOf k := rfl
@[simp] theorem State.recordsOf_callForPass (s : State) (k : Handle) : s.callForPass.recordsOf k = s.recordsOf k := rfl
@[simp] theorem State.recordsOf_onStages (s : State) (m : Option StageMap) (f : Channel → Channel) (k : Handle) :
    (s.onStages m f).recordsOf k = s.recordsOf k := State.recordsOf_congr (s.onStages_memory m f) k

/-! ### Checked reads (R57 to R59, R62) -/

theorem Part.outcome_of_primary {α : Type} {p : Part α} (h : p.primary.good = true) :
    p.outcome = .good p.primary.value := by simp [Part.outcome, h]

theorem Part.outcome_of_shadow {α : Type} {p : Part α} (h : p.primary.good = false) (h' : p.shadow.good = true) :
    p.outcome = .repaired p.shadow.value := by simp [Part.outcome, h, h']

theorem Part.outcome_of_neither {α : Type} {p : Part α} (h : p.primary.good = false) (h' : p.shadow.good = false) :
    p.outcome = .lost := by simp [Part.outcome, h, h']

/-- What a checked read of a base part that exists gives and leaves, by what it finds. -/
theorem State.readBase_eq {s : State} {h : Handle} {p : Part BaseRecord} (hp : (s.recordsOf h).base = some p) :
    s.readBase h = match p.outcome with
      | .good v => (some v, s)
      | .repaired v =>
        (some v, (s.setRecords h { s.recordsOf h with base := some p.repair }).countRepair (.repairedBase h))
      | .lost => (none, s) := by
  simp only [State.readBase, hp] <;> rfl

theorem State.readOptional_eq {s : State} {h : Handle} {p : Part OptionalRecord}
    (hp : (s.recordsOf h).optional = some p) :
    s.readOptional h = match p.outcome with
      | .good v => (some v, s)
      | .repaired v =>
        (some v, (s.setRecords h { s.recordsOf h with optional := some p.repair }).countRepair (.repairedOptional h))
      | .lost => (none, s) := by
  simp only [State.readOptional, hp] <;> rfl

theorem State.readEnvelope_eq {s : State} {depth : Nat} {e : StackEntry} (he : s.table.stack[depth - 1]? = some e)
    (hc : e.condition = .intact) :
    s.readEnvelope depth = match e.part.outcome with
      | .good v => (.values v, s)
      | .repaired v =>
        (.values v, (s.setEntry depth { e with part := e.part.repair }).countRepair (.repairedEnvelope depth))
      | .lost => (.lost true, (s.setEntry depth { e with condition := .lost }).post (.envelopeLost depth)) := by
  simp only [State.readEnvelope, he, hc] <;> rfl

/-- A LOST entry is not read (R64). -/
theorem State.readEnvelope_of_lost {s : State} {depth : Nat} {e : StackEntry} (he : s.table.stack[depth - 1]? = some e)
    (hc : e.condition = .lost) : s.readEnvelope depth = (.lost false, s) := by
  simp only [State.readEnvelope, he, hc]

/-- Settles O38: the outcome of a part is that of its two copies. -/
theorem checksOnReadRepairOrLose : Obligations.ChecksOnReadRepairOrLose := by
  intro s
  refine ⟨fun h p hp => ⟨fun hg => ?_, fun hb hg => ?_, fun hb hb' => ?_⟩,
    fun h p hp => ⟨fun hg => ?_, fun hb hg => ?_, fun hb hb' => ?_⟩,
    fun depth e _ he => ⟨fun hl => ?_, fun hc hg => ?_, fun hc hb hg => ?_, fun hc hb hb' => ?_⟩⟩
  · rw [State.readBase_eq hp, Part.outcome_of_primary hg]
  · rw [State.readBase_eq hp, Part.outcome_of_shadow hb hg]; rfl
  · rw [State.readBase_eq hp, Part.outcome_of_neither hb hb']
  · rw [State.readOptional_eq hp, Part.outcome_of_primary hg]
  · rw [State.readOptional_eq hp, Part.outcome_of_shadow hb hg]; rfl
  · rw [State.readOptional_eq hp, Part.outcome_of_neither hb hb']
  · exact State.readEnvelope_of_lost he hl
  · rw [State.readEnvelope_eq he hc, Part.outcome_of_primary hg]
  · rw [State.readEnvelope_eq he hc, Part.outcome_of_shadow hb hg]; rfl
  · rw [State.readEnvelope_eq he hc, Part.outcome_of_neither hb hb']; rfl

/-! ### Cell upsets (R55) -/

theorem exec_cellUpset_of_settled {s : State} (hs : s.settled = true) (t : UpsetTarget) (copy : CopyName) :
    exec (.cellUpset t copy) s = .next (s.upset t copy) := by
  show Host.Outcome.next (s.settle.upset t copy) = _
  rw [State.settle_of_settled hs]

/-- Putting the record parts of a handle back as they stand changes nothing. -/
theorem State.setRecords_recordsOf (s : State) (h : Handle) : s.setRecords h (s.recordsOf h) = s := by
  have hsame : s.memory.records.set h.val (s.recordsOf h) h.isLt = s.memory.records := by
    apply Vector.ext
    intro i hi
    by_cases e : h.val = i
    · subst e; simp [State.recordsOf, Vector.get_eq_getElem]
    · simp [Vector.getElem_set_ne, e]
  simp only [State.setRecords, hsame]

theorem State.upset_envelope {s : State} {depth : Nat} {e : StackEntry} (hd : 1 ≤ depth)
    (he : s.table.stack[depth - 1]? = some e) (copy : CopyName) :
    s.upset (.envelope depth) copy = s.setEntry depth { e with part := e.part.upset copy } := by
  simp only [State.upset, he, if_neg (Nat.one_le_iff_ne_zero.1 hd)]

theorem State.upset_envelope_of_none {s : State} {depth : Nat} (hd : s.table.stack.length < depth) (copy : CopyName) :
    s.upset (.envelope depth) copy = s := by
  have hnone : s.table.stack[depth - 1]? = none := List.getElem?_eq_none (by omega)
  simp only [State.upset, hnone, if_neg (Nat.ne_zero_of_lt hd)]

/-- Settles O39: an upset replaces one part by the part with one copy bad. -/
theorem cellUpsetSpoilsOneCopyUnseen : Obligations.CellUpsetSpoilsOneCopyUnseen := by
  intro s hs
  refine ⟨fun copy => ?_, fun h p hp => ?_, fun h p hp => ?_, fun depth e hd he => ?_, fun h copy hp => ?_,
    fun h copy hp => ?_, fun depth copy hd => ?_⟩
  · exact exec_cellUpset_of_settled hs _ _
  · simp only [exec_cellUpset_of_settled hs, State.upset, hp, Option.map_some, Part.upset]
    exact ⟨rfl, rfl⟩
  · simp only [exec_cellUpset_of_settled hs, State.upset, hp, Option.map_some, Part.upset]
    exact ⟨rfl, rfl⟩
  · simp only [exec_cellUpset_of_settled hs, State.upset_envelope hd he, Part.upset]
    exact ⟨rfl, rfl⟩
  · rw [exec_cellUpset_of_settled hs]
    refine congrArg _ (Eq.trans (congrArg (s.setRecords h) ?_) (s.setRecords_recordsOf h))
    rcases hrec : s.recordsOf h with ⟨b, o⟩
    simp_all
  · rw [exec_cellUpset_of_settled hs]
    refine congrArg _ (Eq.trans (congrArg (s.setRecords h) ?_) (s.setRecords_recordsOf h))
    rcases hrec : s.recordsOf h with ⟨b, o⟩
    simp_all
  · rw [exec_cellUpset_of_settled hs, State.upset_envelope_of_none hd]

/-! ### Claims that change their state, and their channels with them -/

/-- An entry in TRIPPED (R25, R48). -/
def Claim.tripped (c : Claim) (reason : TripReason) : Claim := { c with
  state := .tripped, tripReason := some reason, driveGrant := 0, returnGrant := 0, releaseBasis := none
  refreshTimer := .stopped, brakeTimer := .stopped }

/-- An entry in BRAKING (R25, R43). -/
def Claim.braking (c : Claim) (brakeTime : Nat) : Claim := { c with
  state := .braking, driveGrant := 0, returnGrant := 0, releaseBasis := none, refreshTimer := .stopped
  brakeTimer := .running brakeTime }

/-- A channel in OFF with its brake engaged (R26, R134). -/
def Channel.switchedOff (k : Channel) : Channel := { k with mode := .off, gates := .off, brakeEngaged := true }

/-- A channel in BRAKE (R26). -/
def Channel.braked (k : Channel) : Channel := { k with mode := .brake, brakeEngaged := true }

/-- A channel given back (R28). -/
def Channel.freed (k : Channel) : Channel := { k with owner := none, mode := .off, gates := .off, brakeEngaged := true }

theorem State.enterTripped_of_idle {s : State} {h : Handle} (r : TripReason)
    (hc : (s.claim h).state = .unbound ∨ (s.claim h).state = .tripped) : s.enterTripped h r = s := by
  unfold State.enterTripped
  dsimp only
  rw [if_neg]
  rcases hc with e | e <;> simp [e, ClaimState.bound]

theorem ClaimState.bound_iff (x : ClaimState) : x.bound = true ↔ x ≠ .unbound := by cases x <;> decide

theorem ClaimState.live_iff (x : ClaimState) : x.live = true ↔ x = .run ∨ x = .stale ∨ x = .releasing := by
  cases x <;> decide

theorem ClaimState.bound_of_live {x : ClaimState} (h : x.live = true) : x.bound = true := by
  cases x <;> first | rfl | cases h

/-- Entry to TRIPPED from any other bound state (R48). -/
theorem State.enterTripped_of_moves {s : State} {h : Handle} (r : TripReason) (hb : (s.claim h).state ≠ .unbound)
    (ht : (s.claim h).state ≠ .tripped) :
    s.enterTripped h r = ((((s.setClaim h ((s.claim h).tripped r)).callForPass).abandonRamp h (s.claim h)).onStages
      (s.claim h).stageMap Channel.switchedOff).post (.tripped h r) := by
  unfold State.enterTripped
  dsimp only
  rw [if_pos ⟨(ClaimState.bound_iff _).2 hb, ht⟩]
  rfl

/-- The table's read of a base part that is not lost. -/
theorem State.tableRead_of_some {s s' : State} {h : Handle} {r : BaseRecord} (hr : s.readBase h = (some r, s')) :
    s.tableRead h = (some r, s') := by
  simp only [State.tableRead, hr]

theorem State.tableRead_of_none {s s' : State} {h : Handle} (hr : s.readBase h = (none, s')) :
    s.tableRead h = (none, s'.recordLost h) := by
  simp only [State.tableRead, hr]

/-- A read that finds the part lost leaves the state as it was. -/
theorem State.readBase_none {s s' : State} {h : Handle} (hr : s.readBase h = (none, s')) : s' = s := by
  rcases s.readBase_cases h with e | ⟨_, _, _, _, e, _⟩ <;> simp_all

theorem State.recordLost_of_bound {s : State} {h : Handle} (hb : (s.claim h).state ≠ .unbound) :
    s.recordLost h = (s.setClaim h { s.claim h with condition := some .lost }).enterTripped h .recordLost := by
  unfold State.recordLost
  dsimp only
  rw [if_pos ((ClaimState.bound_iff _).2 hb)]

/-- Entry to BRAKING when the brake-time read finds the record (R43). -/
theorem State.enterBraking_of_some {s s' : State} {h : Handle} {r : BaseRecord} (hr : s.readBase h = (some r, s')) :
    s.enterBraking h = (((s'.setClaim h ((s'.claim h).braking r.brakeTime)).callForPass).abandonRamp h
      (s'.claim h)).onStages (s'.claim h).stageMap Channel.braked := by
  unfold State.enterBraking
  rw [State.tableRead_of_some hr]
  rfl

/-- Entry to BRAKING when it finds the record lost (R50). -/
theorem State.enterBraking_of_none {s s' : State} {h : Handle} (hr : s.readBase h = (none, s'))
    (hb : (s.claim h).state ≠ .unbound) :
    s.enterBraking h = (s.setClaim h { s.claim h with condition := some .lost }).enterTripped h .recordLost := by
  unfold State.enterBraking
  rw [State.tableRead_of_none hr, State.readBase_none hr, State.recordLost_of_bound hb]

/-- A ramp abandoned: the primary channel's ramped demand becomes 0 (R135). -/
theorem State.channel_abandonRamp (s : State) (h : Handle) (c : Claim) (m : StageMap) (hm : c.stageMap = some m)
    (st : Stage) :
    (s.abandonRamp h c).channel st = { s.channel st with
      ramped := if c.state = .releasing ∧ st = m.primary then 0 else (s.channel st).ramped } := by
  unfold State.abandonRamp
  by_cases hr : c.state = .releasing
  · have e := s.channel_modChannel m.primary st (fun k => { k with ramped := 0 })
    rw [if_pos hr, hm]
    refine Eq.trans (show _ = (s.modChannel m.primary _).channel st from rfl) (e.trans ?_)
    by_cases hst : st = m.primary
    · subst hst; simp [hr]
    · simp [hst]
  · simp [hr]

/-- An abandoned ramp's release reports have no effect any more (log 13). -/
theorem State.reports_abandonRamp (s : State) (h : Handle) (c : Claim) (hm : c.stageMap.isSome = true) :
    (s.abandonRamp h c).reports = if c.state = .releasing then
      s.reports.filter (fun r => !(r.handle == h && r.kind == .releaseComplete)) else s.reports := by
  obtain ⟨m, hm⟩ := Option.isSome_iff_exists.1 hm
  unfold State.abandonRamp
  by_cases hr : c.state = .releasing
  · rw [if_pos hr, if_pos hr, hm]
  · rw [if_neg hr, if_neg hr]

/-- Settles O17: the entry is written once in a bound claim not yet TRIPPED, and each block is read off it. -/
theorem enteringTrippedRecordsFirstReason : Obligations.EnteringTrippedRecordsFirstReason := by
  intro s h reason c t
  refine ⟨State.enterTripped_of_idle reason, ?_⟩
  intro m hb ht hm
  have e : t = _ := State.enterTripped_of_moves reason hb ht
  rw [hm] at e
  have idem (k : Channel) : k.switchedOff.switchedOff = k.switchedOff := rfl
  have hch (st : Stage) : t.channel st = if st ∈ m.stages
      then { s.channel st with
        mode := .off, gates := .off, brakeEngaged := true
        ramped := if c.state = .releasing ∧ st = m.primary then 0 else (s.channel st).ramped }
      else { s.channel st with ramped := if c.state = .releasing ∧ st = m.primary then 0 else (s.channel st).ramped } := by
    rw [e, State.channel_post, State.channel_onStages _ m _ idem, State.channel_abandonRamp _ h _ m hm]
    rfl
  refine ⟨?_, ?_, ?_, ?_, ?_, ?_, ?_, ?_, ?_, ?_, ?_, ?_⟩
  · rw [e]; simp; rfl
  · intro k hk
    exact s.enterTripped_claim_of_ne h k reason hk
  · intro st hst
    rw [hch, if_pos hst]
  · intro st hst
    have hne : st ≠ m.primary := fun h => hst (by simp [StageMap.stages, h])
    rw [hch, if_neg hst]
    simp [hne]
  · rw [e]; simp
  · rw [e]; simp
  · rw [e]
    exact (State.onStages_reports _ _ _).trans
      (State.reports_abandonRamp _ h (s.claim h) (Option.isSome_iff_exists.2 ⟨m, hm⟩))
  all_goals simp [t]

/-- Settles O16: with the record read, the entry is written and the claim's channels engage their brakes; with the record
lost, the claim is tripped instead. -/
theorem enteringBrakingEngagesBrakesAndTimer : Obligations.EnteringBrakingEngagesBrakesAndTimer := by
  intro s s' h m hl hm c t
  have hb : (s.claim h).state ≠ .unbound := (ClaimState.bound_iff _).1 (ClaimState.bound_of_live hl)
  refine ⟨?_, fun hr => State.enterBraking_of_none hr hb⟩
  intro r hr
  have hs' : s' = (s.readBase h).2 := by rw [hr]
  have hcl (k : Handle) : s'.claim k = s.claim k := by rw [hs', State.claim_readBase]
  have hpasses : s'.passes = s.passes := by rw [hs', State.readBase_passes]
  have hreports : s'.reports = s.reports := by rw [hs', State.readBase_reports]
  have e : t = _ := State.enterBraking_of_some hr
  rw [hcl h, hm] at e
  have idem (k : Channel) : k.braked.braked = k.braked := rfl
  have hch (st : Stage) : t.channel st = if st ∈ m.stages
      then { s.channel st with
        mode := .brake, brakeEngaged := true
        ramped := if c.state = .releasing ∧ st = m.primary then 0 else (s.channel st).ramped }
      else { s.channel st with ramped := if c.state = .releasing ∧ st = m.primary then 0 else (s.channel st).ramped } := by
    rw [e, State.channel_onStages _ m _ idem, State.channel_abandonRamp _ h _ m hm]
    simp only [State.channel_callForPass, State.channel_setClaim, hs', State.channel_readBase]
    rfl
  refine ⟨?_, ?_, ?_, ?_, ?_, ?_, ?_, ?_, ?_, ?_, ?_, ?_⟩
  · rw [e]; simp; rfl
  · intro k hk
    exact s.enterBraking_claim_of_ne h k hk
  · intro st hst
    rw [hch, if_pos hst]
  · intro st hst
    have hne : st ≠ m.primary := fun h => hst (by simp [StageMap.stages, h])
    rw [hch, if_neg hst]
    simp [hne]
  · rw [e]; simp [hpasses]
  · rw [e]
    refine (State.onStages_reports _ _ _).trans ((State.reports_abandonRamp _ h (s.claim h) (by simp [hm])).trans ?_)
    simp only [State.callForPass_reports, State.setClaim_reports, hreports, c]
  · rw [e]; simp
  · rw [e]; simp
  all_goals simp [t]

/-- Settles O18: the entry, the records, the cells, the floor and the stages are each given back once. -/
theorem freedClaimGivesBackCellsFloorAndStages : Obligations.FreedClaimGivesBackCellsFloorAndStages := by
  intro s h m floor hm hf t
  have idem (k : Channel) : k.freed.freed = k.freed := rfl
  have hcl (k : Handle) : t.claim k = if k = h then Claim.unbound else s.claim k := by
    simp only [t, State.freeClaim, State.claim_post, State.claim_callForPass, State.claim_setClaim, State.claim_onStages]
    rfl
  have hmem : t.memory = { s.memory with
      free := s.memory.free + m.cls.cells, records := s.memory.records.set h.val ClaimRecords.none h.isLt } := by
    simp [t, State.freeClaim, hm, StageMap.cells]
    rfl
  have hrec (k : Handle) : t.recordsOf k = (s.setRecords h ClaimRecords.none).recordsOf k := by
    simp only [State.recordsOf, hmem, State.setRecords]
  have hch (st : Stage) : t.channel st = if st ∈ m.stages then (s.channel st).freed else s.channel st := by
    simp only [t, State.freeClaim, State.channel_post, State.channel_callForPass, State.channel_setClaim, hm]
    exact State.channel_onStages _ m Channel.freed idem st
  refine ⟨by simp [hcl], fun k hk => by simp [hcl, hk], by simp [hrec], fun k hk => ?_, ?_, by simp [hmem], ?_, ?_, ?_,
    ?_, ?_, ?_, ?_, ?_, ?_⟩
  · rw [hrec, State.recordsOf_setRecords_of_ne _ _ _ _ hk]
  · simp only [hmem, Nat.add_left_cancel_iff]
    cases m.cls <;> rfl
  · simp [t, State.freeClaim, hf]
  · intro st hst
    rw [hch, if_pos hst]; rfl
  · intro st hst
    rw [hch, if_neg hst]
  all_goals simp [t, State.freeClaim]

end Sys2Proof.Machine

namespace Sys2Proof.Machine

/-! ### Octets written back as they were read -/

theorem octetOf_of_toNat (o : Octet) : octetOf o.toNat = o := by simp [octetOf]

theorem wordOctets_append (hi lo : Octet) : wordOctets (hi ++ lo) = [hi, lo] := (wordOctets_eq (hi ++ lo) hi lo).1 rfl

theorem ofNat_u16 (hi lo : Octet) : BitVec.ofNat 16 (u16 hi lo) = hi ++ lo := by
  apply BitVec.eq_of_toNat_eq
  have h : (hi ++ lo : BitVec (8 + 8)).toNat = hi.toNat * 256 + lo.toNat := by
    rw [BitVec.toNat_append, ← Nat.shiftLeft_add_eq_or_of_lt lo.isLt, Nat.shiftLeft_eq]
  have := u16_lt hi lo
  rw [BitVec.toNat_ofNat, Nat.mod_eq_of_lt this]
  exact h.symm

theorem octets16_u16 (hi lo : Octet) : octets16 (u16 hi lo) = [hi, lo] := by
  rw [octets16, ofNat_u16, wordOctets_append]

theorem signedOctets16_s16 (hi lo : Octet) : signedOctets16 (s16 hi lo) = [hi, lo] := by
  rw [signedOctets16, s16, BitVec.ofInt_toInt, wordOctets_append]

/-- The octet of a sign and band is the only one read as them: codes not given and bits of no field are refused (R168). -/
theorem signBandOctet_of_parse {o : Octet} {x : MotionSign × Band} (h : parseSignBand o = some x) :
    signBandOctet x.1 x.2 = o := by
  have all : ∀ o : Octet, (parseSignBand o).all (fun x => signBandOctet x.1 x.2 == o) = true := by decide +kernel
  simpa [h] using all o

theorem flagsOctet_of_parse {o : Octet} {f : Flags} (h : parseFlags o = some f) : f.octet = o := by
  have all : ∀ o : Octet, (parseFlags o).all (fun f => f.octet == o) = true := by decide +kernel
  simpa [h] using all o

theorem classCode_of_octet {o : Octet} {c : ClaimClass} (h : classOfOctet o = some c) : c.code = o := by
  have all : ∀ o : Octet, (classOfOctet o).all (fun c => c.code == o) = true := by decide +kernel
  simpa [h] using all o

theorem stageOctet_of_parse {o : Octet} {st : Stage} (h : parseStage o = some st) : octetOf st.val = o := by
  have all : ∀ o : Octet, (parseStage o).all (fun st => octetOf st.val == o) = true := by decide +kernel
  simpa [h] using all o

theorem demandOctets_of_parse {hi lo sb : Octet} {d : DemandFields} (h : parseDemand hi lo sb = some d) :
    d.Admissible ∧ d.octets = [hi, lo, sb] := by
  unfold parseDemand at h
  dsimp only at h
  split at h
  · rename_i hd
    obtain ⟨x, hx, rfl⟩ := Option.map_eq_some_iff.1 h
    refine ⟨hd, ?_⟩
    simp only [DemandFields.octets, signedOctets16_s16, signBandOctet_of_parse hx, List.cons_append, List.nil_append]
  · cases h

/-! ### Payloads as runs of fields -/

/-- The octet at an index and what follows it. -/
theorem octetAt_cons_drop {p : List Octet} {i : Nat} (h : i < p.length) : octetAt p i :: p.drop (i + 1) = p.drop i := by
  rw [List.drop_eq_getElem_cons h, octetAt, List.getD_eq_getElem _ _ h]

/-- The two octets of the field at an index and what follows them. -/
theorem octets16_fieldAt_drop {p : List Octet} {i : Nat} (h : i + 1 < p.length) :
    octets16 (fieldAt p i) ++ p.drop (i + 2) = p.drop i := by
  rw [fieldAt, octets16_u16, ← octetAt_cons_drop (Nat.lt_of_succ_lt h), ← octetAt_cons_drop h]
  rfl

theorem fieldsFrom_length (p : List Octet) (i n : Nat) : (fieldsFrom p i n).length = n := by
  induction n generalizing i with
  | zero => rfl
  | succ n ih => simp [fieldsFrom, ih]

/-- The octets of the fields from an index and what follows them. -/
theorem octets16_fieldsFrom_drop {p : List Octet} {i n : Nat} (h : i + 2 * n ≤ p.length) :
    (fieldsFrom p i n).flatMap octets16 ++ p.drop (i + 2 * n) = p.drop i := by
  induction n generalizing i with
  | zero => simp [fieldsFrom]
  | succ n ih =>
    have hrest : i + 2 + 2 * n = i + 2 * (n + 1) := by omega
    have := ih (i := i + 2) (by omega)
    rw [fieldsFrom, List.flatMap_cons, List.append_assoc, ← hrest, this, octets16_fieldAt_drop (by omega)]

theorem drop_all {p : List Octet} {n : Nat} (h : p.length = n) : p.drop n = [] := List.drop_eq_nil_of_le (Nat.le_of_eq h)

/-- The first octet of a payload that is not empty. -/
theorem getElem?_zero_of_ne_nil {p : List Octet} (h : p ≠ []) : p[0]? = some (octetAt p 0) := by
  cases p with
  | nil => exact absurd rfl h
  | cons a p => rfl

/-! ### BIND (R14) -/

theorem BaseRecord.inRange_iff (r : BaseRecord) : r.inRange = true ↔
    (1 ≤ r.level ∧ r.level ≤ 7) ∧ r.floor ≤ 4000 ∧ (100 ≤ r.currentLimit ∧ r.currentLimit ≤ 2000)
      ∧ (r.currentLimit + 1 ≤ r.tripLevel ∧ r.tripLevel ≤ 3000) ∧ r.holdDemand.natAbs ≤ r.currentLimit
      ∧ (1 ≤ r.refreshWindow ∧ r.refreshWindow ≤ 255) ∧ (1 ≤ r.releaseStep ∧ r.releaseStep ≤ 255)
      ∧ (1 ≤ r.brakeTime ∧ r.brakeTime ≤ 255) ∧ r.kp ≤ 4095 ∧ r.ki ≤ 4095 ∧ r.integratorLimit ≤ 1000
      ∧ (∀ x ∈ r.motoring, x ≤ 1000) ∧ ∀ x ∈ r.regenerating, x ≤ 1000 := by
  simp only [BaseRecord.inRange, Bool.and_eq_true, decide_eq_true_eq, List.all_eq_true, Nat.lt_iff_add_one_le, and_assoc]

/-- The range check of a base part with eight coefficients on each side is that of 1.2. -/
theorem BaseRecord.admissible_iff (r : BaseRecord) :
    r.Admissible ↔ r.inRange = true ∧ r.motoring.length = 8 ∧ r.regenerating.length = 8 := by
  rw [r.inRange_iff]
  unfold BaseRecord.Admissible
  tauto

/-- What a BIND in range is read from. -/
theorem parseBind_eq_some {p : List Octet} {b : BindFields} (h : parseBind p = some b) :
    ∃ cls flags, classOfOctet (octetAt p 0) = some cls ∧ parseStage (octetAt p 1) = some b.primary
      ∧ parseFlags (octetAt p 52) = some flags ∧ b.base = bindBase p cls flags ∧ b.base.inRange = true
      ∧ bindOptional p b.base b.primary = some b.optional := by
  unfold parseBind at h
  split at h
  · rename_i cls primary flags hcls hprimary hflags
    dsimp only at h
    split at h
    · obtain ⟨o, ho, rfl⟩ := Option.map_eq_some_iff.1 h
      exact ⟨cls, flags, hcls, hprimary, hflags, rfl, ‹_›, ho⟩
    · cases h
  · cases h

/-- The optional part read from a payload fits its class, and the octets from index 53 carry it when the payload ends with
them (R6, R7). -/
theorem bindOptional_eq_some {p : List Octet} {base : BaseRecord} {primary : Stage} {o : Option OptionalRecord}
    (h : bindOptional p base primary = some o) :
    OptionalFits base.cls primary base.currentLimit o
      ∧ (p.length = 53 + (optionalOctets o).length → optionalOctets o = p.drop 53) := by
  unfold bindOptional at h
  split at h
  · rename_i hcls
    cases h
    exact ⟨by simp [OptionalFits, hcls], fun hlen => (drop_all hlen).symm⟩
  · rename_i hcls
    dsimp only at h
    split at h
    · rename_i hs
      cases h
      obtain ⟨hstart, hlimits⟩ := hs
      refine ⟨?_, fun hlen => ?_⟩
      · simpa [OptionalFits, hcls, fieldsFrom_length, hstart] using hlimits
      · have hlen' : p.length = 54 + 2 * (8 - (octetAt p 53).toNat) := by
          simp [optionalOctets, octets16, wordOctets, fieldsFrom_length] at hlen
          omega
        have hfields := octets16_fieldsFrom_drop (p := p) (i := 54) (n := 8 - (octetAt p 53).toNat) (by omega)
        rw [drop_all hlen', List.append_nil] at hfields
        rw [optionalOctets, hfields, octetOf_of_toNat, octetAt_cons_drop (by omega)]
    · cases h
  · rename_i hcls
    split at h
    · cases h
    rename_i partner hpartner
    split at h
    · rename_i hs
      cases h
      obtain ⟨hne, hlow, hhigh, htime⟩ := hs
      have := (octetAt p 56).isLt
      refine ⟨?_, fun hlen => ?_⟩
      · simp only [OptionalFits, hcls]
        exact ⟨hne, ⟨hlow, hhigh⟩, htime, by omega⟩
      · have hlen' : p.length = 57 := hlen
        simp only [optionalOctets, stageOctet_of_parse hpartner, octetOf_of_toNat, List.cons_append]
        rw [← octetAt_cons_drop (i := 53) (by omega), ← octets16_fieldAt_drop (i := 54) (by omega),
          ← octetAt_cons_drop (i := 56) (by omega), drop_all hlen']
    · cases h

/-- A BIND payload of the right length holds its class's optional part and nothing behind it (R167). -/
theorem bindLength_of_not_wrong {p : List Octet} {cls : ClaimClass} (hw : ¬BindLengthWrong p)
    (hcls : classOfOctet (octetAt p 0) = some cls) {base : BaseRecord} {primary : Stage} {o : Option OptionalRecord}
    (hbase : base.cls = cls) (h : bindOptional p base primary = some o) : p.length = 53 + (optionalOctets o).length := by
  simp only [BindLengthWrong, not_or, not_and, not_not] at hw
  obtain ⟨hne, haxis, hpair, hspindle⟩ := hw
  have hfirst : p[0]? = some cls.code := by rw [classCode_of_octet hcls, getElem?_zero_of_ne_nil hne]
  obtain ⟨hfits, -⟩ := bindOptional_eq_some h
  rw [hbase] at hfits
  cases cls with
  | axis =>
    match o, hfits with
    | none, _ => exact haxis hfirst
  | pair =>
    match o, hfits with
    | some (.pair _ _ _), _ => exact hpair hfirst
  | spindle =>
    match o, hfits with
    | some (.weakening s limits), hfits =>
      obtain ⟨hstart, hlimits, -⟩ := hfits
      have hs : s = (octetAt p 53).toNat := by
        simp only [bindOptional, hbase] at h
        split at h
        · simp_all
        · cases h
      obtain ⟨hlong, hexact⟩ := hspindle hfirst
      have hat : p[53]? = some (octetAt p 53) := by
        rw [octetAt, List.getD_eq_getElem?_getD, List.getElem?_eq_getElem (by omega)]
        rfl
      have hlen : p.length = 70 - 2 * s := by
        by_contra hne
        exact hexact ⟨octetAt p 53, hat, hs ▸ hstart.1, hs ▸ hstart.2, hs ▸ hne⟩
      simp [optionalOctets, octets16, wordOctets, hlimits]
      omega

/-- A BIND that is read lies in its ranges, and a payload of the right length is the one that carries it. -/
theorem parseBind_sound {p : List Octet} {b : BindFields} (h : parseBind p = some b) :
    b.Admissible ∧ (¬BindLengthWrong p → p = b.octets) := by
  obtain ⟨cls, flags, hcls, hprimary, hflags, hbase, hrange, ho⟩ := parseBind_eq_some h
  obtain ⟨hfits, hoctets⟩ := bindOptional_eq_some ho
  refine ⟨⟨(BaseRecord.admissible_iff _).2 ⟨hrange, ?_, ?_⟩, hfits⟩, fun hw => ?_⟩
  · rw [hbase]; exact fieldsFrom_length _ _ _
  · rw [hbase]; exact fieldsFrom_length _ _ _
  have hlen := bindLength_of_not_wrong hw hcls (by rw [hbase]; rfl) ho
  have hopt := hoctets hlen
  have h53 : 53 ≤ p.length := by omega
  calc p = p.drop 0 := rfl
    _ = b.octets := by
      rw [BindFields.octets, hopt, hbase]
      simp only [bindBase, classCode_of_octet hcls, stageOctet_of_parse hprimary, flagsOctet_of_parse hflags,
        octetOf_of_toNat, signedOctets16_s16, List.append_assoc, List.cons_append, List.nil_append]
      simp (disch := omega) only [octetAt_cons_drop, octets16_fieldAt_drop, octets16_fieldsFrom_drop (n := 8)]

/-! ### MODIFY (R17) -/

/-- What a marked value of a MODIFY is read as: absent when its mark is clear, otherwise the field, in its bounds. -/
theorem markedValue_eq_some {mark : Bool} {lo hi x : Nat} {o : Option Nat} (h : markedValue mark lo hi x = some o) :
    o.isSome = mark ∧ ∀ y ∈ o, y = x ∧ lo ≤ y ∧ y ≤ hi := by
  unfold markedValue at h
  split at h
  · split at h
    · cases h; simp_all
    · cases h
  · cases h; simp_all

theorem markedHold_eq_some {mark : Bool} {x : Int} {o : Option Int} (h : markedHold mark x = some o) :
    o.isSome = mark ∧ ∀ y ∈ o, y = x ∧ y.natAbs ≤ 2000 := by
  unfold markedHold at h
  split at h
  · split at h
    · cases h; simp_all [Config.maxDemand]
    · cases h
  · cases h; simp_all

theorem Flags.disjoint_iff (a b : Flags) : a.disjoint b = true ↔ ¬(a.hold = true ∧ b.hold = true)
    ∧ ¬(a.cutExempt = true ∧ b.cutExempt = true) ∧ ¬(a.shortNotice = true ∧ b.shortNotice = true) := by
  simp [Flags.disjoint, and_assoc, imp_iff_not_or]

/-- An octet whose upper three bits are clear is made of its lower five. -/
theorem marks_of_bits (o : Octet) (h : o &&& 0xE0#8 = 0) :
    0#3 ++ BitVec.ofBool (o.getLsbD 4) ++ BitVec.ofBool (o.getLsbD 3) ++ BitVec.ofBool (o.getLsbD 2)
      ++ BitVec.ofBool (o.getLsbD 1) ++ BitVec.ofBool (o.getLsbD 0) = o := by
  have all : ∀ o : Octet, o &&& 0xE0#8 = 0 →
      0#3 ++ BitVec.ofBool (o.getLsbD 4) ++ BitVec.ofBool (o.getLsbD 3) ++ BitVec.ofBool (o.getLsbD 2)
        ++ BitVec.ofBool (o.getLsbD 1) ++ BitVec.ofBool (o.getLsbD 0) = o := by decide +kernel
  exact all o h

/-- The octets of a value that may be absent, when a present one is the field that stands there. -/
theorem optionOctets_eq {α : Type} {o : Option α} {f : α → List Octet} {x : α} {unread : List Octet}
    (h : ∀ y ∈ o, y = x) (hx : f x = unread) : (o.map f).getD unread = unread := by
  cases o with
  | none => rfl
  | some y => rw [h y rfl, Option.map_some, Option.getD_some, hx]

/-- What a MODIFY in range is read from. -/
theorem parseModify_eq_some {p : List Octet} {m : ModifyFields} (h : parseModify p = some m) :
    octetAt p 0 &&& 0xE0#8 = 0
      ∧ markedValue ((octetAt p 0).getLsbD 0) 1 7 (octetAt p 1).toNat = some m.level
      ∧ markedValue ((octetAt p 0).getLsbD 1) 0 4000 (fieldAt p 2) = some m.floor
      ∧ markedValue ((octetAt p 0).getLsbD 2) 100 2000 (fieldAt p 4) = some m.currentLimit
      ∧ markedValue ((octetAt p 0).getLsbD 3) 101 3000 (fieldAt p 6) = some m.tripLevel
      ∧ markedHold ((octetAt p 0).getLsbD 4) (s16 (octetAt p 8) (octetAt p 9)) = some m.holdDemand
      ∧ parseFlags (octetAt p 10) = some m.setFlags ∧ parseFlags (octetAt p 11) = some m.clearFlags
      ∧ m.setFlags.disjoint m.clearFlags = true := by
  unfold parseModify at h
  dsimp only at h
  split at h
  · cases h
  rename_i hmarks
  split at h
  · split at h
    · cases h
      simp_all
    · cases h
  · cases h

theorem parseModify_sound {p : List Octet} {m : ModifyFields} (h : parseModify p = some m) :
    m.Admissible ∧ (p.length = 12 → p = m.octets (octetAt p)) := by
  obtain ⟨hmarks, hlevel, hfloor, hlimit, htrip, hhold, hset, hclear, hdisjoint⟩ := parseModify_eq_some h
  obtain ⟨level, level'⟩ := markedValue_eq_some hlevel
  obtain ⟨floor, floor'⟩ := markedValue_eq_some hfloor
  obtain ⟨limit, limit'⟩ := markedValue_eq_some hlimit
  obtain ⟨trip, trip'⟩ := markedValue_eq_some htrip
  obtain ⟨hold, hold'⟩ := markedHold_eq_some hhold
  refine ⟨⟨fun x hx => (level' x hx).2, fun x hx => (floor' x hx).2.2, fun x hx => (limit' x hx).2,
    fun x hx => (trip' x hx).2, fun x hx => (hold' x hx).2, (Flags.disjoint_iff _ _).1 hdisjoint⟩, fun hlen => ?_⟩
  have marks : m.marks = octetAt p 0 := by
    rw [ModifyFields.marks, level, floor, limit, trip, hold, marks_of_bits _ hmarks]
  have field (i : Nat) : octets16 (fieldAt p i) = [octetAt p i, octetAt p (i + 1)] := octets16_u16 _ _
  rw [ModifyFields.octets, marks, optionOctets_eq (fun y hy => (level' y hy).1) (by rw [octetOf_of_toNat]),
    optionOctets_eq (fun y hy => (floor' y hy).1) (field 2), optionOctets_eq (fun y hy => (limit' y hy).1) (field 4),
    optionOctets_eq (fun y hy => (trip' y hy).1) (field 6),
    optionOctets_eq (fun y hy => (hold' y hy).1) (signedOctets16_s16 _ _), flagsOctet_of_parse hset,
    flagsOctet_of_parse hclear, ← drop_all hlen]
  calc p = p.drop 0 := rfl
    _ = [octetAt p 0, octetAt p 1, octetAt p 2, octetAt p 3, octetAt p 4, octetAt p 5, octetAt p 6, octetAt p 7,
          octetAt p 8, octetAt p 9, octetAt p 10, octetAt p 11] ++ p.drop 12 := by
      simp (disch := omega) only [List.cons_append, List.nil_append, octetAt_cons_drop]
    _ = _ := by rw [drop_all hlen]; rfl

/-! ### CYCLE (R183) -/

/-- Reading a list of things that may each be refused. -/
theorem mapM_option_eq_some {α β : Type} (f : α → Option β) (l : List α) (ys : List β) :
    l.mapM f = some ys ↔ List.Forall₂ (fun a b => f a = some b) l ys := by
  induction l generalizing ys with
  | nil => simp [eq_comm]
  | cons a l ih =>
    rw [List.mapM_cons]
    cases ys with
    | nil => cases f a <;> cases l.mapM f <;> simp
    | cons y ys =>
      rw [List.forall₂_cons, ← ih]
      cases f a <;> cases l.mapM f <;> simp

/-- The station field of a CYCLE entry is the upper half of its first octet. -/
theorem upperFour_toNat (o : Octet) : (o.extractLsb' 4 4).toNat = o.toNat / 16 := by
  have := o.isLt
  simp only [BitVec.extractLsb'_toNat, Nat.shiftRight_eq_div_pow]
  omega

/-- What holds of everything a list's members are matched with holds of every member of the other list. -/
theorem forall_mem_of_forall₂ {α β : Type} {R : α → β → Prop} {P : β → Prop} {l : List α} {u : List β}
    (h : List.Forall₂ R l u) (hP : ∀ a b, R a b → P b) : ∀ b ∈ u, P b := by
  induction h with
  | nil => simp
  | cons hab _ ih => simpa using ⟨hP _ _ hab, ih⟩

/-- The four octets that name this station and are read as an entry are its quad. -/
theorem quad_of_parseCycleEntry {station : BitVec 2} {q : Octet × Octet × Octet × Octet} {e : CycleEntry}
    (hq : (q.1.extractLsb' 4 4).toNat = station.toNat) (h : parseCycleEntry q = some e) :
    e.fields.Admissible ∧ q = e.quad station := by
  obtain ⟨d, hd, rfl⟩ := Option.map_eq_some_iff.1 h
  obtain ⟨hadm, hoctets⟩ := demandOctets_of_parse hd
  refine ⟨hadm, ?_⟩
  have hfirst : ∀ (o : Octet) (x : BitVec 2), (o.extractLsb' 4 4).toNat = x.toNat →
      x.zeroExtend 4 ++ BitVec.ofFin (w := 4) (o.extractLsb' 0 4).toFin = o := by decide +kernel
  simp only [DemandFields.octets, signedOctets16, wordOctets, List.cons_append, List.nil_append, List.cons.injEq,
    and_true] at hoctets
  obtain ⟨h1, h2, h3⟩ := hoctets
  obtain ⟨a, b, c, d'⟩ := q
  simp only [CycleEntry.quad, Prod.mk.injEq, hfirst a station hq]
  exact ⟨trivial, h1.symm, h2.symm, h3.symm⟩

/-- A list whose length is a multiple of four is the list of its quads. -/
theorem cycleQuads_flatMap (l : List Octet) (n : Nat) (h : l.length = 4 * n) :
    (cycleQuads l).flatMap quadOctets = l ∧ (cycleQuads l).length = n := by
  induction n generalizing l with
  | zero =>
    rw [List.length_eq_zero_iff.1 h]
    exact ⟨rfl, rfl⟩
  | succ n ih =>
    match l with
    | a :: b :: c :: d :: rest =>
      obtain ⟨hrest, hlen⟩ := ih rest (by simp at h; omega)
      simp [cycleQuads, quadOctets, hrest, hlen]
    | [] | [_] | [_, _] | [_, _, _] => simp at h <;> omega

/-- A CYCLE's entries lie in their ranges, and a payload of the right length is one that carries them. -/
theorem parseCycle_sound {station : BitVec 2} {p : List Octet} {es : List CycleEntry}
    (h : parseCycle station p = some es) :
    (∀ e ∈ es, e.fields.Admissible)
      ∧ ((∀ count, p[0]? = some count → p.length = 1 + 4 * count.toNat) → CarriesCycle station es p) := by
  unfold parseCycle at h
  split at h
  · cases h
  rename_i count rest
  split at h
  swap
  · cases h
  rename_i hcount
  rw [cycleNaming, if_pos hcount, mapM_option_eq_some] at h
  have hentries := (List.forall₂_and_left _ _).2 ⟨fun q hq => beq_iff_eq.1 (List.mem_filter.1 hq).2, h⟩
  have hquads := hentries.imp fun q e hqe => quad_of_parseCycleEntry (station := station) hqe.1 hqe.2
  refine ⟨forall_mem_of_forall₂ hquads fun _ _ he => he.1, fun hlen => ?_⟩
  have hrest : rest.length = 4 * count.toNat := by
    have := hlen count rfl
    simp at this
    omega
  obtain ⟨hflat, hn⟩ := cycleQuads_flatMap rest count.toNat hrest
  have hnaming : (cycleQuads rest).filter (fun q => (q.1.extractLsb' 4 4).toNat == station.toNat)
      = es.map (·.quad station) := by
    rw [← List.forall₂_eq_eq_eq, List.forall₂_map_right_iff]
    exact hquads.imp fun _ _ he => he.2
  refine ⟨cycleQuads rest, by omega, by omega, ?_, ?_⟩
  · rw [hflat, hn, octetOf_of_toNat]
  · rw [← hnaming]
    exact List.filter_congr fun q _ => by rw [upperFour_toNat]

/-! ### What the range check admits -/

theorem parseConfigure_sound {p : List Octet} {f : ConfigureFields} (h : parseConfigure p = some f) :
    f.Admissible ∧ p = f.octets := by
  unfold parseConfigure at h
  split at h
  · dsimp only at h
    split at h
    · cases h
      refine ⟨‹_›, ?_⟩
      simp [ConfigureFields.octets, octets16_u16, octetOf_of_toNat]
    · cases h
  · cases h

theorem parsePush_sound {p : List Octet} {e : Envelope} (h : parsePush p = some e) :
    e.Admissible ∧ p = e.octets := by
  unfold parsePush at h
  split at h
  · rename_i t a b c d cut
    split at h
    · rename_i hr
      cases h
      obtain ⟨htag, hdrive, hret, hcut⟩ := hr
      have := t.isLt
      refine ⟨⟨htag, by simp; omega, hdrive, hret, hcut⟩, ?_⟩
      simp [Envelope.octets, octets16_u16, octetOf_of_toNat]
    · cases h
  · cases h

/-- A payload of a verb of a fixed length that is not wrong has that length. -/
theorem Verb.length_of_not_wrong {v : Verb} {p : List Octet} {n : Nat} (hv : v.payloadOctets = some n)
    (hw : ¬v.LengthWrong p) : p.length = n := by
  by_contra hne
  exact hw (.inr (.inl ⟨n, hv, hne⟩))

theorem Verb.nil_of_not_wrong {v : Verb} {p : List Octet} (hv : v.payloadOctets = some 0) (hw : ¬v.LengthWrong p) :
    p = [] := List.length_eq_zero_iff.1 (v.length_of_not_wrong hv hw)

/-- Settles O8: each verb's payload is taken apart as its range check reads it. -/
theorem admittedCommandLiesInItsRanges : Obligations.AdmittedCommandLiesInItsRanges := by
  intro v station h urgent p c hparse
  cases v with
  | demand =>
    simp only [parseCommand] at hparse
    split at hparse
    · obtain ⟨d, hd, rfl⟩ := Option.map_eq_some_iff.1 hparse
      obtain ⟨hadm, hoctets⟩ := demandOctets_of_parse hd
      exact ⟨rfl, hadm, fun _ => ⟨rfl, hoctets.symm⟩⟩
    · cases hparse
  | cycle =>
    obtain ⟨es, hes, rfl⟩ := Option.map_eq_some_iff.1 hparse
    obtain ⟨hadm, hcarries⟩ := parseCycle_sound hes
    refine ⟨rfl, hadm, fun hw => hcarries fun count hcount => ?_⟩
    by_contra hne
    exact hw (.inr (.inr (.inr ⟨rfl, .inr ⟨count, hcount, hne⟩⟩)))
  | stop =>
    simp only [parseCommand] at hparse
    split at hparse
    · cases hparse; exact ⟨rfl, trivial, fun _ => ⟨rfl, ‹_›⟩⟩
    split at hparse
    · cases hparse; exact ⟨rfl, trivial, fun _ => ‹_›⟩
    · cases hparse
  | lookup =>
    simp only [parseCommand] at hparse
    split at hparse
    · cases hparse; exact ⟨rfl, trivial, fun _ => ⟨rfl, ‹_›⟩⟩
    split at hparse
    · cases hparse; exact ⟨rfl, trivial, fun _ => ⟨rfl, ‹_›⟩⟩
    · cases hparse
  | status => cases hparse; exact ⟨rfl, trivial, Verb.nil_of_not_wrong rfl⟩
  | readNotice => cases hparse; exact ⟨rfl, trivial, Verb.nil_of_not_wrong rfl⟩
  | configure =>
    obtain ⟨f, hf, rfl⟩ := Option.map_eq_some_iff.1 hparse
    exact ⟨rfl, (parseConfigure_sound hf).1, fun _ => (parseConfigure_sound hf).2⟩
  | resetLink => cases hparse; exact ⟨rfl, trivial, Verb.nil_of_not_wrong rfl⟩
  | bind =>
    obtain ⟨b, hb, rfl⟩ := Option.map_eq_some_iff.1 hparse
    obtain ⟨hadm, hoctets⟩ := parseBind_sound hb
    exact ⟨rfl, hadm, fun hw => ⟨rfl, rfl, hoctets fun hl => hw (.inr (.inr (.inl ⟨rfl, hl⟩)))⟩⟩
  | modify =>
    obtain ⟨m, hm, rfl⟩ := Option.map_eq_some_iff.1 hparse
    obtain ⟨hadm, hoctets⟩ := parseModify_sound hm
    exact ⟨rfl, hadm, fun hw => ⟨rfl, rfl, _, hoctets (Verb.length_of_not_wrong rfl hw)⟩⟩
  | retire => cases hparse; exact ⟨rfl, trivial, fun hw => ⟨rfl, rfl, Verb.nil_of_not_wrong rfl hw⟩⟩
  | resume => cases hparse; exact ⟨rfl, trivial, fun hw => ⟨rfl, rfl, Verb.nil_of_not_wrong rfl hw⟩⟩
  | push =>
    obtain ⟨e, he, rfl⟩ := Option.map_eq_some_iff.1 hparse
    exact ⟨rfl, (parsePush_sound he).1, fun _ => ⟨rfl, rfl, (parsePush_sound he).2⟩⟩
  | pop =>
    simp only [parseCommand] at hparse
    split at hparse
    · rename_i t
      cases hparse
      have := t.isLt
      exact ⟨rfl, show t.toNat ≤ 255 by omega, fun _ => ⟨rfl, rfl, show [t] = [octetOf t.toNat] by rw [octetOf_of_toNat]⟩⟩
    · cases hparse

end Sys2Proof.Machine

namespace Sys2Proof.Machine

/-! ### Fields read back from the octets that carry them -/

theorem octetAt_of_drop {p post : List Octet} {i : Nat} {x : Octet} (h : p.drop i = x :: post) : octetAt p i = x := by
  have e : p[i]? = some x := by rw [← List.head?_drop, h]; rfl
  rw [octetAt, List.getD_eq_getElem?_getD, e, Option.getD_some]

theorem fieldAt_of_drop {p post : List Octet} {i n : Nat} (hn : n < 65536) (h : p.drop i = octets16 n ++ post) :
    fieldAt p i = n := by
  have hnext : p.drop (i + 1) = (BitVec.ofNat 16 n).extractLsb' 0 8 :: post := by
    rw [← List.drop_drop, h]
    rfl
  rw [fieldAt, octetAt_of_drop h, octetAt_of_drop hnext, u16_octets16 n hn]

theorem fieldsFrom_of_drop {p post : List Octet} {i : Nat} {xs : List Nat} (hx : ∀ x ∈ xs, x < 65536)
    (h : p.drop i = xs.flatMap octets16 ++ post) : fieldsFrom p i xs.length = xs := by
  induction xs generalizing i with
  | nil => rfl
  | cons x xs ih =>
    rw [List.flatMap_cons, List.append_assoc] at h
    have hnext : p.drop (i + 2) = xs.flatMap octets16 ++ post := by
      rw [← List.drop_drop, h]
      rfl
    rw [List.length_cons, fieldsFrom, fieldAt_of_drop (hx x (by simp)) h, ih (fun y hy => hx y (by simp [hy])) hnext]

theorem flatMap_octets16_length (xs : List Nat) : (xs.flatMap octets16).length = 2 * xs.length := by
  induction xs with
  | nil => rfl
  | cons x xs ih => simp [octets16, wordOctets] at ih ⊢; omega

/-- What stands behind a run of eight fields. -/
theorem drop_eight_fields {xs : List Nat} (hx : xs.length = 8) (post : List Octet) :
    (xs.flatMap octets16 ++ post).drop 16 = post := by
  have hlen : (xs.flatMap octets16).length = 16 := by rw [flatMap_octets16_length, hx]
  rw [List.drop_append_of_le_length hlen.ge, drop_all hlen, List.nil_append]

/-! ### DEMAND and CYCLE -/

theorem parseDemand_octets (d : DemandFields) (hd : d.Admissible) :
    parseDemand ((BitVec.ofInt 16 d.demand).extractLsb' 8 8) ((BitVec.ofInt 16 d.demand).extractLsb' 0 8)
      (signBandOctet d.sign d.band) = some d := by
  have hbound : d.demand.natAbs ≤ 2000 := hd
  rw [parseDemand, s16_signedOctets16 d.demand (by omega) (by omega)]
  simp [Config.maxDemand, hbound, parseSignBand_signBandOctet]

theorem parseCycleEntry_quad (station : BitVec 2) (e : CycleEntry) (he : e.fields.Admissible) :
    parseCycleEntry (e.quad station) = some e := by
  have hfirst : ∀ (x : BitVec 2) (h : Handle),
      ((x.zeroExtend 4 ++ BitVec.ofFin (w := 4) h : Octet).extractLsb' 0 4).toFin = h := by decide +kernel
  simp only [parseCycleEntry, CycleEntry.quad, parseDemand_octets e.fields he, Option.map_some, hfirst]

theorem cycleQuads_of_flatMap (qs : List (Octet × Octet × Octet × Octet)) :
    cycleQuads (qs.flatMap quadOctets) = qs := by
  induction qs with
  | nil => rfl
  | cons q qs ih =>
    rw [List.flatMap_cons, quadOctets, List.cons_append, List.cons_append, List.cons_append, List.cons_append,
      List.nil_append, cycleQuads, ih]

theorem cycleQuads_flatMap_length (qs : List (Octet × Octet × Octet × Octet)) :
    (qs.flatMap quadOctets).length = 4 * qs.length := by
  induction qs with
  | nil => rfl
  | cons q qs ih => simp [quadOctets] at ih ⊢; omega

theorem parseCycle_of_carries {station : BitVec 2} {es : List CycleEntry} {p : List Octet}
    (hadm : ∀ e ∈ es, e.fields.Admissible) (h : CarriesCycle station es p) :
    parseCycle station p = some es ∧ ∃ count, p[0]? = some count ∧ p.length = 1 + 4 * count.toNat := by
  obtain ⟨quads, hlow, hhigh, rfl, hnaming⟩ := h
  have hcount : (octetOf quads.length).toNat = quads.length := octetOf_toNat _ (by omega)
  have hsame : quads.filter (fun q => (q.1.extractLsb' 4 4).toNat == station.toNat) = es.map (·.quad station) := by
    rw [← hnaming]
    exact List.filter_congr fun q _ => by rw [upperFour_toNat]
  refine ⟨?_, _, rfl, ?_⟩
  · simp only [parseCycle, cycleNaming, hcount, hlow, hhigh, and_self, if_true, cycleQuads_of_flatMap, hsame]
    rw [mapM_option_eq_some, List.forall₂_map_left_iff, List.forall₂_same]
    exact fun e he => parseCycleEntry_quad station e (hadm e he)
  · rw [hcount, List.length_cons, cycleQuads_flatMap_length]
    omega

/-! ### BIND -/

theorem bindBase_octets {b : BindFields} (h : b.base.Admissible) :
    bindBase b.octets b.base.cls b.base.flags = b.base ∧ b.octets.drop 52 = b.base.flags.octet :: optionalOctets b.optional := by
  obtain ⟨primary, ⟨cls, level, floor, currentLimit, tripLevel, holdDemand, refreshWindow, releaseStep, brakeTime, kp, ki,
    integratorLimit, motoring, regenerating, flags⟩, o⟩ := b
  obtain ⟨hlevel, hfloor, hlimit, htrip, hhold, hrefresh, hstep, hbrake, hkp, hki, hint, ⟨hmot, hmot'⟩, hreg, hreg'⟩ := h
  simp only at hlevel hfloor hlimit htrip hhold hrefresh hstep hbrake hkp hki hint hmot hmot' hreg hreg'
  generalize hp : BindFields.octets _ = p
  simp only [BindFields.octets, List.append_assoc, List.cons_append, List.nil_append] at hp
  have h20 : p.drop 20 = motoring.flatMap octets16
      ++ (regenerating.flatMap octets16 ++ (flags.octet :: optionalOctets o)) := by
    rw [← hp]
    rfl
  have h36 : p.drop 36 = regenerating.flatMap octets16 ++ (flags.octet :: optionalOctets o) := by
    rw [show 36 = 20 + 16 from rfl, ← List.drop_drop, h20, drop_eight_fields hmot]
  have h52 : p.drop 52 = flags.octet :: optionalOctets o := by
    rw [show 52 = 36 + 16 from rfl, ← List.drop_drop, h36, drop_eight_fields hreg]
  have field {i n : Nat} (hn : n < 65536) (hi : ∃ post, p.drop i = octets16 n ++ post) : fieldAt p i = n :=
    hi.elim fun _ => fieldAt_of_drop hn
  have octet {i n : Nat} (hn : n < 256) (hi : octetAt p i = octetOf n) : (octetAt p i).toNat = n := by
    rw [hi, octetOf_toNat n hn]
  refine ⟨?_, h52⟩
  simp only [bindBase, BaseRecord.mk.injEq]
  refine ⟨trivial, octet (by omega) (by rw [← hp]; rfl), field (by omega) ⟨_, by rw [← hp]; rfl⟩,
    field (by omega) ⟨_, by rw [← hp]; rfl⟩, field (by omega) ⟨_, by rw [← hp]; rfl⟩, ?_,
    octet (by omega) (by rw [← hp]; rfl), octet (by omega) (by rw [← hp]; rfl), octet (by omega) (by rw [← hp]; rfl),
    field (by omega) ⟨_, by rw [← hp]; rfl⟩, field (by omega) ⟨_, by rw [← hp]; rfl⟩,
    field (by omega) ⟨_, by rw [← hp]; rfl⟩, ?_, ?_, trivial⟩
  · have h9 : p.drop 9 = signedOctets16 holdDemand ++ p.drop 11 := by rw [← hp]; rfl
    have h10 : p.drop 10 = (BitVec.ofInt 16 holdDemand).extractLsb' 0 8 :: p.drop 11 := by rw [← hp]; rfl
    rw [octetAt_of_drop h9, octetAt_of_drop h10, s16_signedOctets16 holdDemand (by omega) (by omega)]
  · rw [← hmot]
    exact fieldsFrom_of_drop (fun x hx => by have := hmot' x hx; omega) h20
  · rw [← hreg]
    exact fieldsFrom_of_drop (fun x hx => by have := hreg' x hx; omega) h36

/-- The optional part reads back from the octets behind the base part. -/
theorem bindOptional_of_drop {p : List Octet} {base : BaseRecord} {primary : Stage} {o : Option OptionalRecord}
    (hbase : base.currentLimit ≤ 2000) (hfits : OptionalFits base.cls primary base.currentLimit o)
    (h53 : p.drop 53 = optionalOctets o) : bindOptional p base primary = some o := by
  unfold bindOptional
  match hcls : base.cls, o, hfits with
  | .axis, none, _ => rfl
  | .spindle, some (.weakening s limits), hfits =>
    obtain ⟨hs, hlen, hlimits⟩ := hfits
    have hstart : (octetAt p 53).toNat = s := by rw [octetAt_of_drop h53, octetOf_toNat s (by omega)]
    have hfields : fieldsFrom p 54 (8 - s) = limits := by
      rw [← hlen]
      refine fieldsFrom_of_drop (post := []) (fun x hx => by have := hlimits x hx; omega) ?_
      rw [show 54 = 53 + 1 from rfl, ← List.drop_drop, h53, List.append_nil]
      rfl
    simp only [hstart, hfields, hs, and_self, true_and]
    rw [if_pos (by simpa using hlimits)]
  | .pair, some (.pair partner limit time), hfits =>
    obtain ⟨hne, hlimit, htime⟩ := hfits
    have h54 : p.drop 54 = octets16 limit ++ [octetOf time] := by
      rw [show 54 = 53 + 1 from rfl, ← List.drop_drop, h53]; rfl
    have h56 : p.drop 56 = [octetOf time] := by
      rw [show 56 = 54 + 2 from rfl, ← List.drop_drop, h54]; rfl
    simp only [octetAt_of_drop h53, parseStage_octetOf, fieldAt_of_drop (by omega : limit < 65536) h54,
      octetAt_of_drop h56, octetOf_toNat time (by omega)]
    rw [if_pos ⟨hne, hlimit.1, hlimit.2, htime.1⟩]

/-- A BIND in range is read back from its octets. -/
theorem parseBind_octets {b : BindFields} (h : b.Admissible) : parseBind b.octets = some b := by
  obtain ⟨hadm, hfits⟩ := h
  obtain ⟨hbase, h52⟩ := bindBase_octets hadm
  have h53 : b.octets.drop 53 = optionalOctets b.optional := by
    rw [show 53 = 52 + 1 from rfl, ← List.drop_drop, h52]; rfl
  obtain ⟨hrange, -, -⟩ := (BaseRecord.admissible_iff _).1 hadm
  have hlimit : b.base.currentLimit ≤ 2000 := by
    obtain ⟨-, -, hlimit, -⟩ := hadm
    exact hlimit.2
  have hcls : octetAt b.octets 0 = b.base.cls.code := by simp [BindFields.octets, octetAt]
  have hprimary : octetAt b.octets 1 = octetOf b.primary.val := by simp [BindFields.octets, octetAt]
  simp only [parseBind, hcls, hprimary, octetAt_of_drop h52, classOfOctet_code, parseStage_octetOf, parseFlags_octet,
    hbase, hrange, bindOptional_of_drop hlimit hfits h53, if_true, Option.map_some]

/-- The octets of a BIND in range have a length that is right for the class (R167). -/
theorem bind_octets_length {b : BindFields} (h : b.Admissible) :
    ¬Verb.LengthWrong .bind b.octets := by
  obtain ⟨hadm, hfits⟩ := h
  have h53 : b.octets.drop 53 = optionalOctets b.optional := by
    rw [show 53 = 52 + 1 from rfl, ← List.drop_drop, (bindBase_octets hadm).2]; rfl
  have hcls : b.octets[0]? = some b.base.cls.code := by simp [BindFields.octets]
  have hne : b.octets ≠ [] := by intro h; simp [h] at hcls
  have hlen : b.octets.length = 53 + (optionalOctets b.optional).length := by
    rw [← h53, List.length_drop]
    have : b.octets.drop 52 ≠ [] := by rw [(bindBase_octets hadm).2]; exact List.cons_ne_nil _ _
    have := List.length_pos_iff.2 this
    rw [List.length_drop] at this
    omega
  match hc : b.base.cls, ho : b.optional, hfits with
  | .axis, none, _ =>
    have : b.octets.length = 53 := by rw [hlen, ho]; rfl
    simp only [Verb.LengthWrong, Verb.payloadOctets, BindLengthWrong, hne, hcls, hc, ClaimClass.code, this]
    simp
  | .pair, some (.pair _ _ _), _ =>
    have : b.octets.length = 57 := by rw [hlen, ho]; rfl
    simp only [Verb.LengthWrong, Verb.payloadOctets, BindLengthWrong, hne, hcls, hc, ClaimClass.code, this]
    simp
  | .spindle, some (.weakening s limits), hfits =>
    obtain ⟨hs, hlimits, -⟩ := hfits
    have hlen' : b.octets.length = 70 - 2 * s := by
      rw [hlen, ho, optionalOctets, List.length_cons, flatMap_octets16_length, hlimits]
      omega
    have hat : b.octets[53]? = some (octetOf s) := by rw [← List.head?_drop, h53, ho]; rfl
    simp only [Verb.LengthWrong, Verb.payloadOctets, BindLengthWrong, hne, hcls, hc, ClaimClass.code, hlen', hat,
      Option.some.injEq, exists_eq_left', octetOf_toNat s (by omega)]
    simp
    omega

/-! ### MODIFY -/

/-- A value of a MODIFY is read back when the field that stands there is the value wherever one is marked. -/
theorem markedValue_of {o : Option Nat} {mark : Bool} {lo hi x : Nat} (hmark : mark = o.isSome)
    (hx : ∀ y ∈ o, x = y ∧ lo ≤ y ∧ y ≤ hi) : markedValue mark lo hi x = some o := by
  subst hmark
  cases o with
  | none => rfl
  | some y =>
    obtain ⟨rfl, hr⟩ := hx y rfl
    simp [markedValue, hr]

theorem markedHold_of {o : Option Int} {mark : Bool} {x : Int} (hmark : mark = o.isSome)
    (hx : ∀ y ∈ o, x = y ∧ y.natAbs ≤ 2000) : markedHold mark x = some o := by
  subst hmark
  cases o with
  | none => rfl
  | some y =>
    obtain ⟨rfl, hr⟩ := hx y rfl
    simp [markedHold, hr, Config.maxDemand]

/-- The marks octet shows which values are present, and no bit of no field. -/
theorem ModifyFields.marks_bits (m : ModifyFields) :
    m.marks &&& 0xE0#8 = 0 ∧ m.marks.getLsbD 0 = m.level.isSome ∧ m.marks.getLsbD 1 = m.floor.isSome
      ∧ m.marks.getLsbD 2 = m.currentLimit.isSome ∧ m.marks.getLsbD 3 = m.tripLevel.isSome
      ∧ m.marks.getLsbD 4 = m.holdDemand.isSome := by
  have bits : ∀ a b c d e : Bool,
      let o : Octet := 0#3 ++ BitVec.ofBool a ++ BitVec.ofBool b ++ BitVec.ofBool c ++ BitVec.ofBool d ++ BitVec.ofBool e
      o &&& 0xE0#8 = 0 ∧ o.getLsbD 0 = e ∧ o.getLsbD 1 = d ∧ o.getLsbD 2 = c ∧ o.getLsbD 3 = b ∧ o.getLsbD 4 = a := by
    decide +kernel
  exact bits _ _ _ _ _

/-- The octet that stands for a value of one octet, present or not. -/
theorem oneOctet_of_option (o : Option Nat) (u : Octet) :
    ∃ a, (o.map fun x => [octetOf x]).getD [u] = [a] ∧ ∀ x ∈ o, a = octetOf x := by
  cases o with
  | none => exact ⟨u, rfl, by simp⟩
  | some x => exact ⟨octetOf x, rfl, by simp⟩

/-- The two octets that stand for a value of one field, present or not. -/
theorem twoOctets_of_option {α : Type} (o : Option α) (f : α → BitVec 16) (u v : Octet) :
    ∃ a b, (o.map fun x => wordOctets (f x)).getD [u, v] = [a, b]
      ∧ ∀ x ∈ o, a = (f x).extractLsb' 8 8 ∧ b = (f x).extractLsb' 0 8 := by
  cases o with
  | none => exact ⟨u, v, rfl, by simp⟩
  | some x => exact ⟨_, _, rfl, by simp⟩

theorem parseModify_octets {m : ModifyFields} (h : m.Admissible) (unread : Nat → Octet) :
    parseModify (m.octets unread) = some m ∧ (m.octets unread).length = 12 := by
  obtain ⟨hlevel, hfloor, hlimit, htrip, hhold, hdisjoint⟩ := h
  obtain ⟨hmarks, b0, b1, b2, b3, b4⟩ := m.marks_bits
  obtain ⟨a1, e1, h1⟩ := oneOctet_of_option m.level (unread 1)
  obtain ⟨a2, a3, e2, h2⟩ := twoOctets_of_option m.floor (BitVec.ofNat 16) (unread 2) (unread 3)
  obtain ⟨a4, a5, e4, h4⟩ := twoOctets_of_option m.currentLimit (BitVec.ofNat 16) (unread 4) (unread 5)
  obtain ⟨a6, a7, e6, h6⟩ := twoOctets_of_option m.tripLevel (BitVec.ofNat 16) (unread 6) (unread 7)
  obtain ⟨a8, a9, e8, h8⟩ := twoOctets_of_option m.holdDemand (BitVec.ofInt 16) (unread 8) (unread 9)
  have hoctets : m.octets unread
      = [m.marks, a1, a2, a3, a4, a5, a6, a7, a8, a9, m.setFlags.octet, m.clearFlags.octet] := by
    rw [ModifyFields.octets, e1, show octets16 = fun n => wordOctets (BitVec.ofNat 16 n) from rfl,
      show signedOctets16 = fun x => wordOctets (BitVec.ofInt 16 x) from rfl, e2, e4, e6, e8]
    rfl
  have field {o : Option Nat} {a b : Octet} {lo hi : Nat} (hhi : hi < 65536)
      (hab : ∀ x ∈ o, a = (BitVec.ofNat 16 x).extractLsb' 8 8 ∧ b = (BitVec.ofNat 16 x).extractLsb' 0 8)
      (hr : ∀ x ∈ o, lo ≤ x ∧ x ≤ hi) : ∀ x ∈ o, u16 a b = x ∧ lo ≤ x ∧ x ≤ hi := by
    intro x hx
    have := hr x hx
    rw [(hab x hx).1, (hab x hx).2, u16_octets16 x (by omega)]
    exact ⟨rfl, this⟩
  rw [hoctets]
  refine ⟨?_, rfl⟩
  have v1 : markedValue (m.marks.getLsbD 0) 1 7 a1.toNat = some m.level := markedValue_of b0 fun x hx => by
    have := hlevel x hx
    rw [h1 x hx, octetOf_toNat x (by omega)]
    exact ⟨rfl, this⟩
  have v2 : markedValue (m.marks.getLsbD 1) 0 4000 (u16 a2 a3) = some m.floor :=
    markedValue_of b1 (field (by omega) h2 fun x hx => ⟨Nat.zero_le x, hfloor x hx⟩)
  have v4 : markedValue (m.marks.getLsbD 2) 100 2000 (u16 a4 a5) = some m.currentLimit :=
    markedValue_of b2 (field (by omega) h4 hlimit)
  have v6 : markedValue (m.marks.getLsbD 3) 101 3000 (u16 a6 a7) = some m.tripLevel :=
    markedValue_of b3 (field (by omega) h6 htrip)
  have v8 : markedHold (m.marks.getLsbD 4) (s16 a8 a9) = some m.holdDemand := markedHold_of b4 fun x hx => by
    have := hhold x hx
    rw [(h8 x hx).1, (h8 x hx).2, s16_signedOctets16 x (by omega) (by omega)]
    exact ⟨rfl, this⟩
  have hdis : m.setFlags.disjoint m.clearFlags = true := (Flags.disjoint_iff _ _).2 hdisjoint
  simp only [parseModify, octetAt, fieldAt, List.getD_cons_zero, List.getD_cons_succ, hmarks, v1, v2, v4, v6, v8,
    parseFlags_octet, hdis, if_true, ne_eq, not_true_eq_false, if_false]

/-! ### Every command in range -/

theorem Verb.not_lengthWrong_of_fixed {v : Verb} {p : List Octet} {n : Nat} (hv : v.payloadOctets = some n)
    (hp : p.length = n) (hn : n ≤ 68) : ¬v.LengthWrong p := by
  rintro (h | ⟨k, hk, hne⟩ | ⟨rfl, -⟩ | ⟨rfl, -⟩)
  · omega
  · rw [hv] at hk
    cases hk
    exact hne hp
  · cases hv
  · cases hv

theorem parseConfigure_octets {f : ConfigureFields} (h : f.Admissible) : parseConfigure f.octets = some f := by
  obtain ⟨hg, hgd, hd, hr, ht, ht'⟩ := h
  simp only [ConfigureFields.octets, octets16, wordOctets, List.cons_append, List.nil_append, parseConfigure]
  rw [u16_octets16 f.g (by omega), u16_octets16 f.driveLimit (by omega), u16_octets16 f.returnLimit (by omega),
    octetOf_toNat f.timeout (by omega), if_pos ⟨hg, hgd, hd, hr, ht, ht'⟩]

theorem parsePush_octets {e : Envelope} (h : e.Admissible) : parsePush e.octets = some e := by
  obtain ⟨ht, ht', hd, hr, hc, hc'⟩ := h
  simp only [Envelope.octets, octets16, wordOctets, List.cons_append, List.nil_append, parsePush]
  rw [u16_octets16 e.driveLimit (by omega), u16_octets16 e.returnLimit (by omega), octetOf_toNat e.tag (by omega),
    octetOf_toNat e.cut (by omega), if_pos ⟨ht, hd, hr, hc, hc'⟩]

theorem requestBody_readBack {b : RequestBody} {p : List Octet} (station : BitVec 2) (h : Handle) (urgent : Bool)
    (hadm : b.Admissible) (hp : b.Carried p) :
    parseCommand b.verb station h urgent p = some (.structural urgent ⟨h, b⟩) ∧ ¬b.verb.LengthWrong p := by
  cases b with
  | bind b =>
    obtain rfl : p = b.octets := hp
    exact ⟨by simp [RequestBody.verb, parseCommand, parseBind_octets hadm], bind_octets_length hadm⟩
  | modify m =>
    obtain ⟨unread, rfl⟩ := hp
    obtain ⟨hread, hlen⟩ := parseModify_octets hadm unread
    exact ⟨by simp [RequestBody.verb, parseCommand, hread], Verb.not_lengthWrong_of_fixed rfl hlen (by omega)⟩
  | retire =>
    obtain rfl : p = [] := hp
    exact ⟨rfl, Verb.not_lengthWrong_of_fixed rfl rfl (by omega)⟩
  | resume =>
    obtain rfl : p = [] := hp
    exact ⟨rfl, Verb.not_lengthWrong_of_fixed rfl rfl (by omega)⟩
  | push e =>
    obtain rfl : p = e.octets := hp
    exact ⟨by simp [RequestBody.verb, parseCommand, parsePush_octets hadm],
      Verb.not_lengthWrong_of_fixed rfl rfl (by omega)⟩
  | pop tag =>
    obtain rfl : p = [octetOf tag] := hp
    have htag : tag ≤ 255 := hadm
    exact ⟨by simp [RequestBody.verb, parseCommand, octetOf_toNat tag (by omega)],
      Verb.not_lengthWrong_of_fixed rfl rfl (by omega)⟩

/-- Settles O7: each payload is put together in the order in which it is read. -/
theorem carriedCommandIsReadBack : Obligations.CarriedCommandIsReadBack := by
  intro c station h urgent p hadm hp
  cases c with
  | demand k d =>
    obtain ⟨rfl, rfl⟩ := hp
    refine ⟨?_, Verb.not_lengthWrong_of_fixed rfl rfl (by omega)⟩
    simp only [Command.verb, parseCommand, DemandFields.octets, signedOctets16, wordOctets, List.cons_append,
      List.nil_append, parseDemand_octets d hadm, Option.map_some]
  | cycle es =>
    obtain ⟨hread, count, hcount, hlen⟩ := parseCycle_of_carries hadm hp
    refine ⟨by simp only [Command.verb, parseCommand, hread, Option.map_some], ?_⟩
    obtain ⟨quads, hlow, hhigh, rfl, -⟩ := hp
    have hn := cycleQuads_flatMap_length quads
    rintro (hl | ⟨k, hk, -⟩ | ⟨hv, -⟩ | ⟨-, hl | ⟨x, hx, hne⟩⟩)
    · rw [List.length_cons, hn] at hl
      omega
    · cases hk
    · cases hv
    · cases hl
    · rw [hcount] at hx
      cases hx
      exact hne hlen
  | stop scope =>
    cases scope with
    | none =>
      obtain rfl : p = [1] := hp
      exact ⟨rfl, Verb.not_lengthWrong_of_fixed rfl rfl (by omega)⟩
    | some k =>
      obtain ⟨rfl, rfl⟩ := hp
      exact ⟨rfl, Verb.not_lengthWrong_of_fixed rfl rfl (by omega)⟩
  | lookup k clear =>
    obtain ⟨rfl, rfl⟩ := hp
    exact ⟨by cases clear <;> rfl, Verb.not_lengthWrong_of_fixed rfl rfl (by omega)⟩
  | status =>
    obtain rfl : p = [] := hp
    exact ⟨rfl, Verb.not_lengthWrong_of_fixed rfl rfl (by omega)⟩
  | readNotice =>
    obtain rfl : p = [] := hp
    exact ⟨rfl, Verb.not_lengthWrong_of_fixed rfl rfl (by omega)⟩
  | configure f =>
    obtain rfl : p = f.octets := hp
    exact ⟨by simp [Command.verb, parseCommand, parseConfigure_octets hadm],
      Verb.not_lengthWrong_of_fixed rfl rfl (by omega)⟩
  | resetLink =>
    obtain rfl : p = [] := hp
    exact ⟨rfl, Verb.not_lengthWrong_of_fixed rfl rfl (by omega)⟩
  | structural u r =>
    obtain ⟨rfl, rfl, hp⟩ := hp
    exact requestBody_readBack station r.handle u hadm hp

end Sys2Proof.Machine

namespace Sys2Proof.Machine

/-! ### Notices of the events -/

theorem State.setEstimate_noticed (s : State) (h : Handle) (e : Nat) (sd : DrawSide) :
    s.link.Noticed (s.setEstimate h e sd).link := .of_eq (s.setEstimate_link h e sd)

theorem State.applyDemand_noticed (s : State) (h : Handle) (d : DemandFields) :
    s.link.Noticed (s.applyDemand h d).link := by
  unfold State.applyDemand
  dsimp only
  split
  · exact .refl _
  · generalize hu : s.setClaim h _ = u
    have hs : s.link = u.link := by rw [← hu, State.setClaim_link]
    have e := u.tableRead_noticed h
    rw [hs]
    split
    · simp_all
    · exact LinkPort.Noticed.trans (by simp_all) (State.setEstimate_noticed _ _ _ _)

theorem State.enterStale_noticed (s : State) (h : Handle) : s.link.Noticed (s.enterStale h).link := by
  have e := s.tableRead_noticed h
  unfold State.enterStale
  split
  · simp_all
  · exact LinkPort.Noticed.post (by simp_all) _

theorem State.tripAll_noticed (s : State) : s.link.Noticed s.tripAll.link := by
  unfold State.tripAll
  generalize Handle.all = hs
  induction hs generalizing s with
  | nil => exact .refl _
  | cons h hs ih => exact (s.enterTripped_noticed h .safeOff).trans (ih _)

theorem State.upset_noticed (s : State) (t : UpsetTarget) (copy : CopyName) : s.link.Noticed (s.upset t copy).link := by
  unfold State.upset
  split
  · exact .refl _
  · exact .refl _
  · split
    · exact .refl _
    · split <;> exact .refl _
  · exact .refl _

theorem State.takeTrip_noticed (s : State) (r : Report) : s.link.Noticed (s.takeTrip r).link := by
  unfold State.takeTrip
  split
  · split
    · exact s.recordLost_noticed _
    · exact s.enterTripped_noticed _ _
    · exact s.enterTripped_noticed _ _
    · exact s.enterTripped_noticed _ _
    · exact s.enterTripped_noticed _ _
    · exact .refl _
  · exact .refl _

theorem State.recordShort_noticed (s : State) (st : Stage) (h : Handle) (a b : Bool) :
    s.link.Noticed (s.recordShort st h a b).link := by
  unfold State.recordShort
  split
  · dsimp only
    split
    · exact (LinkPort.Noticed.refl _).post _
    · exact .refl _
  · exact .refl _

theorem State.regulateToward_noticed (s : State) (st : Stage) (h : Handle) (c : Claim) (m : StageMap) (r : BaseRecord)
    (o : Option OptionalRecord) (d : Int) (x y : StageSample) :
    s.link.Noticed (s.regulateToward st h c m r o d x y).link := by
  unfold State.regulateToward
  dsimp only
  cases m.partner <;> exact s.recordShort_noticed _ _ _ _

theorem State.rampAndRegulate_noticed (s : State) (st : Stage) (h : Handle) (c : Claim) (m : StageMap) (r : BaseRecord)
    (o : Option OptionalRecord) (x y : StageSample) :
    s.link.Noticed (s.rampAndRegulate st h c m r o x y).link := by
  unfold State.rampAndRegulate
  split
  · dsimp only
    split
    · exact .of_eq (by simp)
    · exact State.regulateToward_noticed _ _ _ _ _ _ _ _ _ _
  · exact State.regulateToward_noticed _ _ _ _ _ _ _ _ _ _

theorem State.balanceAndRegulate_noticed (s : State) (st : Stage) (h : Handle) (c : Claim) (m : StageMap)
    (r : BaseRecord) (o : Option OptionalRecord) (x y : StageSample) :
    s.link.Noticed (s.balanceAndRegulate st h c m r o x y).link := by
  unfold State.balanceAndRegulate
  split
  · dsimp only
    split
    · exact .of_eq (by simp)
    · exact State.rampAndRegulate_noticed _ _ _ _ _ _ _ _ _
  · exact State.rampAndRegulate_noticed _ _ _ _ _ _ _ _ _
  · exact State.rampAndRegulate_noticed _ _ _ _ _ _ _ _ _

theorem State.readRecords_noticed (s : State) (h : Handle) (c : ClaimClass) :
    s.link.Noticed (s.readRecords h c).2.link := by
  have e := s.readBase_noticed h
  unfold State.readRecords
  split
  · simp_all
  · rename_i r t hr
    have e' := t.readOptional_noticed h
    have ht : s.link.Noticed t.link := by simp_all
    split
    · exact ht
    · refine ht.trans ?_
      split <;> simp_all
    · refine ht.trans ?_
      split <;> simp_all

theorem State.regulate_noticed (s : State) (st : Stage) (h : Handle) (x y : StageSample) :
    s.link.Noticed (s.regulate st h x y).link := by
  unfold State.regulate
  dsimp only
  split
  · exact .refl _
  · rename_i m hm
    have e := s.readRecords_noticed h m.cls
    split
    · split
      · rename_i u hu
        rw [hu] at e
        exact e.trans (LinkPort.Noticed.trans (.of_eq (u.channelTrip_link st h m .recordLost)) (State.recordLost_noticed _ _))
      · rename_i r o u hu
        rw [hu] at e
        refine e.trans ?_
        split
        · exact .of_eq (by simp)
        · exact State.balanceAndRegulate_noticed _ _ _ _ _ _ _ _ _
    · exact .refl _

theorem State.expire_noticed (s : State) (st : Stage) (x y : StageSample) : s.link.Noticed (s.expire st x y).link := by
  unfold State.expire
  dsimp only
  split
  · exact .refl _
  · split
    · exact .refl _
    · split
      · exact .refl _
      · split
        · exact .refl _
        · exact .of_eq (by simp)
        · exact s.regulate_noticed _ _ _ _

theorem State.stageFaultRises_noticed (s : State) (st : Stage) : s.link.Noticed (s.stageFaultRises st).link := by
  unfold State.stageFaultRises
  dsimp only
  split
  · exact .refl _
  · split
    · exact .refl _
    · exact .of_eq (by simp)

theorem State.supplyNormal_noticed (s : State) (d r : Nat) : s.link.Noticed (s.supplyNormal d r).link :=
  State.recompute_noticed (s.setStanding ⟨.normal, d, r⟩)

theorem State.supplyChange_noticed (s : State) (x : SupplyState) (r : Option SupplyReason) :
    s.link.Noticed (s.supplyChange x r).link := (LinkPort.Noticed.refl s.link).post _

theorem State.faultVerdict_noticed (s : State) (r : SupplyReason) (a b : Nat) :
    s.link.Noticed (s.faultVerdict r a b).link := by
  unfold State.faultVerdict
  split
  · exact (s.supplyChange_noticed _ _).trans (State.supplyFault_noticed _ _ _)
  · exact (s.supplyChange_noticed _ _).trans (State.supplyFault_noticed _ _ _)
  · split
    · exact .refl _
    · exact s.supplyChange_noticed _ _

theorem State.normalVerdict_noticed (s : State) (f : SupplyFields) (b : Bool) :
    s.link.Noticed (s.normalVerdict f b).link := by
  unfold State.normalVerdict
  split
  · exact (s.supplyChange_noticed _ _).trans (State.supplyNormal_noticed _ _ _)
  · exact (s.supplyChange_noticed _ _).trans (State.supplyNormal_noticed _ _ _)
  · split
    · exact s.supplyNormal_noticed _ _
    · exact .refl _

theorem State.goodSupplyFrame_noticed (s : State) (f : SupplyFields) : s.link.Noticed (s.goodSupplyFrame f).link := by
  unfold State.goodSupplyFrame
  split
  · exact .refl _
  · dsimp only
    refine LinkPort.Noticed.trans (.of_eq (by simp)) (?_ : ((s.restartTimeout).recordCapability f).link.Noticed _)
    split
    · exact State.faultVerdict_noticed _ _ _ _
    · split
      · exact State.faultVerdict_noticed _ _ _ _
      · exact State.normalVerdict_noticed _ _ _

theorem statusRead_noticed (acc : List (Option Nat) × State) (depth : Nat) :
    acc.2.link.Noticed (statusRead acc depth).2.link := by
  have e := acc.2.readEnvelopeAndRecompute_noticed depth
  unfold statusRead
  split <;> simp_all

theorem statusTags_noticed (s : State) : s.link.Noticed (statusTags s).2.link := by
  have reads (ds : List Nat) (acc : List (Option Nat) × State) :
      acc.2.link.Noticed (ds.foldl statusRead acc).2.link := by
    induction ds generalizing acc with
    | nil => exact .refl _
    | cons d ds ih => exact (statusRead_noticed acc d).trans (ih _)
  exact reads _ ([], s)

theorem lookupRead_noticed (s : State) (h : Handle) : s.link.Noticed (lookupRead s h).2.link := by
  unfold lookupRead
  split
  · exact .refl _
  · exact s.tableRead_noticed h

theorem lookupAtTable_noticed (s : State) (h : Handle) (clear : Bool) :
    s.link.Noticed (lookupAtTable s h clear).state.link := by
  have e := lookupRead_noticed s h
  unfold lookupAtTable
  split
  · exact .refl _
  · dsimp only
    split
    · simpa using e
    · exact e

theorem configurePart_noticed (s : State) (f : ConfigureFields) : s.link.Noticed (configurePart s f).state.link := by
  unfold configurePart
  split
  · exact .refl _
  · refine LinkPort.Noticed.trans ?_ (State.recompute_noticed _)
    simp only [State.configureTable_link]
    unfold State.configureMonitor
    dsimp only
    split
    · exact .refl _
    · exact (LinkPort.Noticed.refl s.link).post _

/-! ### The law of the port -/

/-- What PortLaw says of the port. -/
def LinkPort.Law (l : LinkPort) : Prop :=
  l.urgent.length ≤ 4 ∧ l.normal.length ≤ 8 ∧ l.notices.length ≤ 16
    ∧ (l.headerErrors ≤ 255 ∧ l.frameErrors ≤ 255 ∧ l.formatErrors ≤ 255 ∧ l.dropped ≤ 255
      ∧ l.lostNotices ≤ 255 ∧ l.cycleRefusals ≤ 255)
    ∧ (∀ r ∈ l.urgent, r.body.Admissible) ∧ (∀ r ∈ l.normal, r.body.Admissible)
    ∧ (l.driverOn = true ↔ l.sent ≠ []) ∧ (l.driverOn = true → l.replyExpected = false)

theorem portLaw_iff (s : State) : PortLaw s ↔ s.link.Law := Iff.rfl

theorem LinkPort.Law.post {l : LinkPort} (h : l.Law) (n : Notice) : (l.post n).Law := by
  obtain ⟨hu, hn, hf, ⟨h1, h2, h3, h4, h5, h6⟩, hau, han, hd, hr⟩ := h
  have hlost : (l.post n).lostNotices ≤ 255 := by
    unfold LinkPort.post
    split
    · exact h5
    · exact satInc_le _ _ h5
  exact ⟨by simpa using hu, by simpa using hn, l.post_length n hf, by simpa [hlost] using ⟨h1, h2, h3, h4, h6⟩,
    by simpa using hau, by simpa using han, by simpa using hd, by simpa using hr⟩

theorem LinkPort.Law.noticed {l l' : LinkPort} (h : l.Law) (hl : l.Noticed l') : l'.Law :=
  hl.keeps (fun _ n hl => hl.post n) h

/-- Taking a request keeps the law. -/
theorem LinkPort.Law.next {l l' : LinkPort} {r : Request} (h : l.Law) (hr : l.next = some (r, l')) : l'.Law := by
  obtain ⟨hu, hn, hf, hc, hau, han, hd⟩ := h
  rcases (l.next_eq_some l' r).1 hr with ⟨rest, e, rfl⟩ | ⟨-, rest, e, rfl⟩
  · rw [e] at hu hau
    exact ⟨Nat.le_of_succ_le hu, hn, hf, hc, fun x hx => hau x (List.mem_cons_of_mem _ hx), han, hd⟩
  · rw [e] at hn han
    exact ⟨hu, Nat.le_of_succ_le hn, hf, hc, hau, fun x hx => han x (List.mem_cons_of_mem _ hx), hd⟩

/-- A reply leaves the driver on exactly when a reply frame stands on the line (R164, R171). -/
theorem State.answer_law {s : State} (h : s.link.Law) (hd : Header) (st : Status) (payload : List Octet) :
    (s.answer hd st payload).link.Law := by
  obtain ⟨hu, hn, hf, hc, hau, han, -⟩ := h
  refine ⟨hu, hn, hf, hc, hau, han, ?_, fun _ => rfl⟩
  cases hb : hd.broadcast <;> simp [State.answer, hb, replyFrame]

theorem State.portReady_law {s : State} (h : s.link.Law) : s.portReady.link.Law := by
  obtain ⟨hu, hn, hf, hc, hau, han, -⟩ := h
  exact ⟨hu, hn, hf, hc, hau, han, by simp [State.portReady], fun _ => rfl⟩

theorem State.refuseEntries_law {s : State} (h : s.link.Law) (k : Nat) : (s.refuseEntries k).link.Law := by
  obtain ⟨hu, hn, hf, ⟨h1, h2, h3, h4, h5, h6⟩, hrest⟩ := h
  exact ⟨hu, hn, hf, ⟨h1, h2, h3, h4, h5, satAdd_le _ _ _ h6⟩, hrest⟩

/-! ### Each step keeps the law of the port -/

theorem State.takeNext_law {s : State} (h : s.link.Law) : s.takeNext.link.Law := by
  unfold State.takeNext
  split
  · exact h
  · exact (h.next ‹_›).noticed (State.actOn_noticed _ _)

theorem State.settleWith_law (n : Nat) {s : State} (h : s.link.Law) : (State.settleWith n s).link.Law := by
  induction n generalizing s with
  | zero =>
    unfold State.settleWith
    split
    · exact h.noticed s.startPass_noticed
    · exact h
  | succ n ih =>
    unfold State.settleWith
    split
    · exact h.noticed s.startPass_noticed
    split
    · split
      · exact h
      · exact ih (State.takeNext_law h)
    · exact h

theorem State.settle_law {s : State} (h : s.link.Law) : s.settle.link.Law := State.settleWith_law _ h

theorem State.takeIfDue_law {s : State} (h : s.link.Law) (v : Verb) : (s.takeIfDue v).link.Law := by
  unfold State.takeIfDue
  split
  · exact h
  · split
    · exact State.takeNext_law h
    · exact h

/-- The part when a pass has completed, before the table takes a request: the result published unless the pass was void, and
no pass in flight (R96). -/
def State.completed (s : State) (p : Pass) : State :=
  let u := if s.passes.void then s else s.publish p
  { u with passes := { u.passes with inFlight := none } }

/-- A request taken, and a pass started when one is due again (R104). -/
theorem State.completePass_eq (s : State) (p : Pass) :
    s.completePass p = if s.passes.void || s.passes.rerun || (s.completed p).takeNext.passes.wanted
      then (s.completed p).takeNext.startPass else (s.completed p).takeNext := rfl

@[simp] theorem State.completed_link (s : State) (p : Pass) : (s.completed p).link = s.link := by
  unfold State.completed
  dsimp only
  split <;> simp

theorem State.completePass_law {s : State} (h : s.link.Law) (p : Pass) : (s.completePass p).link.Law := by
  have htaken : (s.completed p).takeNext.link.Law := State.takeNext_law (by rwa [State.completed_link])
  rw [State.completePass_eq]
  split
  · exact htaken.noticed (State.startPass_noticed _)
  · exact htaken

theorem cycleAtTable_law {s : State} (h : s.link.Law) (es : List CycleEntry) : (cycleAtTable s es).link.Law := by
  unfold cycleAtTable
  induction es generalizing s with
  | nil => exact h
  | cons e es ih =>
    refine ih ?_
    unfold cycleEntry
    split
    · exact h.noticed (s.applyDemand_noticed _ _)
    · exact State.refuseEntries_law h 1

theorem LinkPort.full_urgent_iff (l : LinkPort) : l.full true = true ↔ 4 ≤ l.urgent.length := decide_eq_true_iff

theorem LinkPort.full_normal_iff (l : LinkPort) : l.full false = true ↔ 8 ≤ l.normal.length := decide_eq_true_iff

theorem admitRequest_law {s : State} (h : s.link.Law) (urgent : Bool) {r : Request} (hr : r.body.Admissible) :
    (admitRequest s urgent r).state.link.Law := by
  obtain ⟨hu, hn, hf, ⟨h1, h2, h3, h4, h5, h6⟩, hau, han, hd⟩ := h
  have joins {q : List Request} (hq : ∀ x ∈ q, x.body.Admissible) : ∀ x ∈ q ++ [r], x.body.Admissible := by
    simpa [or_imp, forall_and, hr] using hq
  unfold admitRequest
  split
  · exact ⟨hu, hn, hf, ⟨h1, h2, h3, satInc_le _ _ h4, h5, h6⟩, hau, han, hd⟩
  · rename_i hroom
    cases urgent with
    | true =>
      have : s.link.urgent.length < 4 := Nat.not_le.1 (s.link.full_urgent_iff.not.1 hroom)
      exact ⟨by simp [LinkPort.enqueue]; omega, hn, hf, ⟨h1, h2, h3, h4, h5, h6⟩, joins hau, han, hd⟩
    | false =>
      have : s.link.normal.length < 8 := Nat.not_le.1 (s.link.full_normal_iff.not.1 hroom)
      exact ⟨hu, by simp [LinkPort.enqueue]; omega, hf, ⟨h1, h2, h3, h4, h5, h6⟩, hau, joins han, hd⟩

theorem demandAtTable_noticed (s : State) (h : Handle) (d : DemandFields) :
    s.link.Noticed (demandAtTable s h d).state.link := by
  unfold demandAtTable
  split
  case h_2 => exact s.applyDemand_noticed h d
  all_goals exact .refl _

theorem actOnCommand_law {s : State} (h : s.link.Law) {c : Command} (hc : c.Admissible) :
    (actOnCommand s c).state.link.Law := by
  cases c with
  | demand k d => exact h.noticed (demandAtTable_noticed s k d)
  | cycle es => exact cycleAtTable_law h es
  | stop scope => exact h.noticed (s.brakeAll_noticed _)
  | lookup k clear => exact h.noticed (lookupAtTable_noticed s k clear)
  | status => exact h.noticed (statusTags_noticed s)
  | readNotice =>
    show (readNoticeAtPort s).state.link.Law
    unfold readNoticeAtPort
    split
    · exact h
    · rename_i n rest hn
      obtain ⟨hu, hnorm, hf, hrest⟩ := h
      rw [hn] at hf
      exact ⟨hu, hnorm, Nat.le_of_succ_le hf, hrest⟩
  | configure f => exact h.noticed (configurePart_noticed s f)
  | resetLink =>
    obtain ⟨-, -, -, -, -, -, hd⟩ := h
    show s.link.cleared.Law
    simpa [LinkPort.Law, LinkPort.cleared] using hd
  | structural u r => exact admitRequest_law h u hc

/-- A command that passes the checks lies in its ranges (R168). -/
theorem judge_passed {f : PortFrame} {s : State} {h : Header} {c : Command} (hj : judge f s = .passed h c) :
    c.Admissible ∧ (s.table.partState = .unconfigured → c.verb.takenUnconfigured = true) := by
  unfold judge at hj
  split at hj
  · cases hj
  split at hj
  · cases hj
  split at hj
  · cases hj
  split at hj
  swap
  · cases hj
  split at hj
  · cases hj
  split at hj
  · cases hj
  unfold judgePayload at hj
  split at hj
  · cases hj
  rename_i hparse
  obtain ⟨hverb, hadm, -⟩ := admittedCommandLiesInItsRanges _ _ _ _ _ _ hparse
  split at hj
  · cases hj
  · rename_i htaken
    cases hj
    refine ⟨hadm, fun hp => ?_⟩
    rw [hverb]
    simpa [hp] using htaken

theorem State.takeFrame_law {s : State} (h : s.link.Law) (f : PortFrame) : (s.takeFrame f).link.Law := by
  have hs := State.settle_law h
  unfold State.takeFrame
  dsimp only
  generalize s.settle = u at hs
  obtain ⟨hu, hn, hf, ⟨h1, h2, h3, h4, h5, h6⟩, hau, han, hd⟩ := hs
  have hs : u.link.Law := ⟨hu, hn, hf, ⟨h1, h2, h3, h4, h5, h6⟩, hau, han, hd⟩
  cases hj : judge f u with
  | lost => exact hs
  | reply => exact State.portReady_law hs
  | headerBad => exact ⟨hu, hn, hf, ⟨satInc_le _ _ h1, h2, h3, h4, h5, h6⟩, hau, han, by simp [actOnVerdict,
      State.portReady, State.countHeaderError], fun _ => rfl⟩
  | otherStation e => exact ⟨hu, hn, hf, ⟨h1, h2, h3, h4, h5, h6⟩, hau, han, by simp [actOnVerdict, State.portReady,
      State.expectReply], by simp [actOnVerdict, State.portReady, State.expectReply]⟩
  | checkBad hd' =>
    exact State.answer_law (s := u.countFrameError) ⟨hu, hn, hf, ⟨h1, satInc_le _ _ h2, h3, h4, h5, h6⟩, hau, han, hd⟩ _ _ _
  | formatBad hd' =>
    exact State.answer_law (s := u.countFormatError) ⟨hu, hn, hf, ⟨h1, h2, satInc_le _ _ h3, h4, h5, h6⟩, hau, han, hd⟩ _ _ _
  | illegal hd' k => exact State.answer_law (State.refuseEntries_law hs k) _ _ _
  | unconfigured hd' k => exact State.answer_law (State.refuseEntries_law hs k) _ _ _
  | passed hd' c => exact State.answer_law (actOnCommand_law hs (judge_passed hj).1) _ _ _

theorem exec_law {c : Instr} {s t : State} (h : s.link.Law) (ht : exec c s = .next t) : t.link.Law := by
  have hs := State.settle_law h
  have verb (v : Verb) (f : Frame) (ht : exec (v.instr f) s = .next t) : t.link.Law := by
    rw [exec_instr] at ht
    cases ht
    exact State.takeFrame_law h _
  cases c with
  | powerOnReset levels =>
    cases ht
    simp [LinkPort.Law, State.afterReset, LinkPort.initial]
  | demand f => exact verb .demand f ht
  | cycle f => exact verb .cycle f ht
  | stop f => exact verb .stop f ht
  | lookup f => exact verb .lookup f ht
  | status f => exact verb .status f ht
  | readNotice f => exact verb .readNotice f ht
  | configure f => exact verb .configure f ht
  | resetLink f => exact verb .resetLink f ht
  | bind f => exact verb .bind f ht
  | modify f => exact verb .modify f ht
  | retire f => exact verb .retire f ht
  | resume f => exact verb .resume f ht
  | push f => exact verb .push f ht
  | pop f => exact verb .pop f ht
  | headerError f | passedOverFrame f => cases ht; exact State.takeFrame_law h _
  | unknownVerb code f => cases ht; exact State.takeFrame_law h _
  | bindTaken | modifyTaken | retireTaken | resumeTaken | pushTaken | popTaken =>
    cases ht; exact State.takeIfDue_law h _
  | passStart =>
    cases ht
    split
    · exact h.noticed s.startPass_noticed
    · exact h
  | passCompletion =>
    simp only [exec, execPassCompletion] at ht
    split at ht
    · cases ht; exact hs
    · cases ht; exact State.completePass_law hs _
  | refreshTimerExpiry k =>
    simp only [exec, execRefreshTimerExpiry] at ht
    split at ht
    · cases ht; exact hs.noticed (State.enterStale_noticed _ _)
    · cases ht; exact hs
  | brakeTimerExpiry k =>
    simp only [exec, execBrakeTimerExpiry] at ht
    split at ht
    · cases ht; exact hs.noticed (State.enterHalted_noticed _ _)
    · cases ht; exact hs
  | regulationExpiry st x y => cases ht; exact hs.noticed (State.expire_noticed _ _ _ _)
  | tripReport st =>
    simp only [exec, execTripReport] at ht
    split at ht
    · cases ht; exact hs
    · cases ht; exact LinkPort.Law.noticed hs (State.takeTrip_noticed { s.settle with reports := _ } _)
  | releaseCompletion st =>
    simp only [exec, execReleaseCompletion] at ht
    split at ht
    · cases ht; exact hs
    · split at ht
      · cases ht; exact LinkPort.Law.noticed hs (State.freeClaim_noticed { s.settle with reports := _ } _)
      · cases ht; exact hs
  | stageFaultAsserted st =>
    cases ht
    split
    · exact hs
    · exact hs.noticed (State.stageFaultRises_noticed _ _)
  | stageFaultReleased st => cases ht; exact hs
  | safeOffAsserted =>
    cases ht
    split
    · exact hs
    · exact LinkPort.Law.noticed hs (State.tripAll_noticed (s.settle.setSafeOff true))
  | safeOffReleased => cases ht; exact hs
  | supplyFrame chars =>
    simp only [exec, execSupplyFrame] at ht
    split at ht
    · cases ht; exact hs
    · cases ht; exact hs.noticed (State.goodSupplyFrame_noticed _ _)
  | supplyTimeoutExpiry =>
    simp only [exec, execSupplyTimeoutExpiry] at ht
    split at ht
    · cases ht; exact hs
    · cases ht
      exact LinkPort.Law.noticed hs (State.faultVerdict_noticed
        { s.settle with monitor := { s.settle.monitor with timer := .stopped } } _ _ _)
  | cellUpset target copy => cases ht; exact hs.noticed (State.upset_noticed _ _ _)

/-- A step is the settling of an idle part or the command at the front of the queue. -/
theorem step_eq_next {s t : State} (h : step s = .next t) :
    t = s.settle ∨ ∃ c rest, exec c { s with pending := rest } = .next t := by
  unfold step at h
  split at h
  · cases h; exact .inl rfl
  · exact .inr ⟨_, _, h⟩

/-- Settles O55: the table's own work at the port is to take requests and to post notices, and a frame changes one counter,
joins a queue that has room or sends its reply. -/
theorem everyStepKeepsThePortBounds : Obligations.EveryStepKeepsThePortBounds := by
  intro s t hlaw hstep
  rcases step_eq_next hstep with rfl | ⟨c, rest, hc⟩
  · exact State.settle_law hlaw
  · exact exec_law (s := { s with pending := rest }) hlaw hc

end Sys2Proof.Machine

namespace Sys2Proof.Machine

/-! ### Sums over the sixteen entries -/

theorem Handle.all_eq : Handle.all = List.finRange 16 := rfl

theorem State.total_eq_sum (s : State) (f : Claim → Nat) : s.total f = ∑ h, f (s.claim h) := by
  rw [State.total, Handle.all_eq, List.map_map, Fin.sum_univ_def]
  rfl

theorem State.total_congr {s t : State} {f : Claim → Nat} (h : ∀ k, f (t.claim k) = f (s.claim k)) :
    t.total f = s.total f := by
  simp only [State.total_eq_sum, h]

theorem State.total_le {s t : State} {f : Claim → Nat} (h : ∀ k, f (t.claim k) ≤ f (s.claim k)) :
    t.total f ≤ s.total f := by
  simp only [State.total_eq_sum]
  exact Finset.sum_le_sum fun k _ => h k

/-- A figure's sum when one entry alone changes it. -/
theorem State.total_update {s t : State} {f : Claim → Nat} (h : Handle)
    (hk : ∀ k, k ≠ h → f (t.claim k) = f (s.claim k)) :
    t.total f + f (s.claim h) = s.total f + f (t.claim h) := by
  have hrest : ∑ k ∈ Finset.univ.erase h, f (t.claim k) = ∑ k ∈ Finset.univ.erase h, f (s.claim k) :=
    Finset.sum_congr rfl fun k hk' => hk k (Finset.ne_of_mem_erase hk')
  have es := Finset.add_sum_erase Finset.univ (fun k => f (s.claim k)) (Finset.mem_univ h)
  have et := Finset.add_sum_erase Finset.univ (fun k => f (t.claim k)) (Finset.mem_univ h)
  simp only [State.total_eq_sum]
  omega

theorem State.le_total (s : State) (f : Claim → Nat) (h : Handle) : f (s.claim h) ≤ s.total f := by
  rw [State.total_eq_sum]
  exact Finset.single_le_sum (f := fun k => f (s.claim k)) (fun _ _ => Nat.zero_le _) (Finset.mem_univ h)

/-! ### Channels wired to their claims (R9, R22, R26, R134) -/

/-- The state of the claim that owns a stage; UNBOUND for an unowned one. -/
def State.ownerState (s : State) (st : Stage) : ClaimState :=
  match (s.channel st).owner with
  | none => .unbound
  | some o => (s.claim o.handle).state

/-- Gates are off where R134 has them off. -/
def Channel.GatesLaw (k : Channel) : Prop := k.mode = .off ∨ k.faultHold = true → k.gates = .off

/-- Stage maps and recorded owners are the same relation, and mode, brake and gates follow the owner's state. -/
structure Wired (s : State) : Prop where
  owned : ∀ h st role, (s.claim h).Names st role ↔ (s.channel st).owner = some ⟨h, role⟩
  mode : ∀ st, (s.channel st).mode = (s.ownerState st).mode
  brake : ∀ st, (s.channel st).brakeEngaged = !(s.ownerState st).live
  gates : ∀ st, (s.channel st).GatesLaw

/-- A report of a lost record under way names a claim that is LOST (log 12). -/
def ReportsTrue (s : State) : Prop :=
  ∀ r ∈ s.reports, r.kind = .trip .recordLost → (s.claim r.handle).condition = some .lost

/-- While safe-off is asserted, no claim is in a state but UNBOUND and TRIPPED. -/
def SafeOffLaw (s : State) : Prop :=
  s.inputs.safeOff = true → ∀ h, (s.claim h).state = .unbound ∨ (s.claim h).state = .tripped

theorem State.ownerState_of_owner {s : State} {st : Stage} {o : Owner} (h : (s.channel st).owner = some o) :
    s.ownerState st = (s.claim o.handle).state := by
  simp only [State.ownerState, h]

theorem State.ownerState_of_none {s : State} {st : Stage} (h : (s.channel st).owner = none) :
    s.ownerState st = .unbound := by
  simp only [State.ownerState, h]

theorem channelLaw_iff (s : State) :
    ChannelLaw s ↔ Wired s ∧ s.table.safeOff = s.inputs.safeOff ∧ SafeOffLaw s ∧ ReportsTrue s := by
  constructor
  · rintro ⟨hnames, howner, hnone, hgates, hsafe, hoff, hreports⟩
    refine ⟨⟨fun h st role => ⟨hnames h st role, fun ho => (howner st _ ho).1⟩, fun st => ?_, fun st => ?_, hgates⟩,
      hsafe, hoff, hreports⟩
    · cases ho : (s.channel st).owner with
      | none => rw [State.ownerState_of_none ho]; exact (hnone st ho).1
      | some o => rw [State.ownerState_of_owner ho]; exact (howner st o ho).2.1
    · cases ho : (s.channel st).owner with
      | none => rw [State.ownerState_of_none ho]; exact (hnone st ho).2
      | some o => rw [State.ownerState_of_owner ho]; exact (howner st o ho).2.2
  · rintro ⟨hw, hsafe, hoff, hreports⟩
    refine ⟨fun h st role => (hw.owned h st role).1, fun st o ho => ⟨(hw.owned _ st o.role).2 ho, ?_, ?_⟩,
      fun st ho => ⟨?_, ?_⟩, hw.gates, hsafe, hoff, hreports⟩
    · rw [hw.mode, State.ownerState_of_owner ho]
    · rw [hw.brake, State.ownerState_of_owner ho]
    · rw [hw.mode, State.ownerState_of_none ho]; rfl
    · rw [hw.brake, State.ownerState_of_none ho]; rfl

/-- A claim's stages are those whose channels record it. -/
theorem Wired.mem_stages {s : State} (hw : Wired s) {h : Handle} {m : StageMap} (hm : (s.claim h).stageMap = some m)
    (st : Stage) : st ∈ m.stages ↔ ∃ role, (s.channel st).owner = some ⟨h, role⟩ := by
  simp only [← hw.owned, Claim.Names, hm, Option.some.injEq, StageMap.stages, List.mem_cons,
    Option.mem_toList]
  constructor
  · rintro (rfl | hp)
    · exact ⟨.primary, m, rfl, .inl ⟨rfl, rfl⟩⟩
    · exact ⟨.partner, m, rfl, .inr ⟨rfl, hp⟩⟩
  · rintro ⟨role, _, rfl, ⟨-, rfl⟩ | ⟨-, hp⟩⟩
    · exact .inl rfl
    · exact .inr hp

/-- The partner of a stage map is not its primary stage (R7). -/
theorem Wired.partner_ne {s : State} (hw : Wired s) {h : Handle} {m : StageMap} (hm : (s.claim h).stageMap = some m) :
    m.partner ≠ some m.primary := by
  intro hp
  have h1 := (hw.owned h m.primary .primary).1 ⟨m, hm, .inl ⟨rfl, rfl⟩⟩
  have h2 := (hw.owned h m.primary .partner).1 ⟨m, hm, .inr ⟨rfl, hp⟩⟩
  rw [h1] at h2
  cases h2

/-- The wiring depends on the entries' stage maps and states and on the channels. -/
theorem Wired.of_eq {s t : State} (hw : Wired s) (hmap : ∀ h, (t.claim h).stageMap = (s.claim h).stageMap)
    (howner : ∀ st, (t.channel st).owner = (s.channel st).owner)
    (hmode : ∀ st, (t.channel st).mode = (t.ownerState st).mode)
    (hbrake : ∀ st, (t.channel st).brakeEngaged = !(t.ownerState st).live)
    (hgates : ∀ st, (t.channel st).GatesLaw) : Wired t := by
  refine ⟨fun h st role => ?_, hmode, hbrake, hgates⟩
  rw [howner, ← hw.owned]
  simp only [Claim.Names, hmap]

/-- Channels that change neither owner nor mode nor brake stay wired while the entries' modes and liveness stand. -/
theorem Wired.of_states {s t : State} (hw : Wired s) (hmap : ∀ h, (t.claim h).stageMap = (s.claim h).stageMap)
    (hmode : ∀ h, (t.claim h).state.mode = (s.claim h).state.mode)
    (hlive : ∀ h, (t.claim h).state.live = (s.claim h).state.live)
    (hch : ∀ st, (t.channel st).owner = (s.channel st).owner ∧ (t.channel st).mode = (s.channel st).mode
      ∧ (t.channel st).brakeEngaged = (s.channel st).brakeEngaged ∧ (t.channel st).GatesLaw) : Wired t := by
  refine hw.of_eq hmap (fun st => (hch st).1) (fun st => ?_) (fun st => ?_) fun st => (hch st).2.2.2
  · rw [(hch st).2.1, hw.mode]
    simp only [State.ownerState, (hch st).1]
    cases (s.channel st).owner <;> simp [hmode]
  · rw [(hch st).2.2.1, hw.brake]
    simp only [State.ownerState, (hch st).1]
    cases (s.channel st).owner <;> simp [hlive]

/-- The wiring is seen in the entries and the channels alone. -/
theorem Wired.congr {s t : State} (hw : Wired s) (hclaims : t.claims = s.claims) (hchannels : t.channels = s.channels) :
    Wired t := by
  have hc (h : Handle) : t.claim h = s.claim h := State.claim_congr hclaims h
  have hk (st : Stage) : t.channel st = s.channel st := State.channel_congr hchannels st
  exact hw.of_states (fun h => by rw [hc]) (fun h => by rw [hc]) (fun h => by rw [hc])
    fun st => by rw [hk]; exact ⟨rfl, rfl, rfl, hw.gates st⟩

/-- One claim changes its state and its channels with it. -/
theorem Wired.of_move {s t : State} (hw : Wired s) (h : Handle) (hother : ∀ k, k ≠ h → t.claim k = s.claim k)
    (hmap : (t.claim h).stageMap = (s.claim h).stageMap)
    (howner : ∀ st, (t.channel st).owner = (s.channel st).owner)
    (hout : ∀ st, (∀ role, (s.channel st).owner ≠ some ⟨h, role⟩) → (t.channel st).mode = (s.channel st).mode
      ∧ (t.channel st).brakeEngaged = (s.channel st).brakeEngaged ∧ (t.channel st).GatesLaw)
    (hin : ∀ st role, (s.channel st).owner = some ⟨h, role⟩ → (t.channel st).mode = (t.claim h).state.mode
      ∧ (t.channel st).brakeEngaged = !(t.claim h).state.live ∧ (t.channel st).GatesLaw) : Wired t := by
  have hall (st : Stage) : (t.channel st).mode = (t.ownerState st).mode
      ∧ (t.channel st).brakeEngaged = !(t.ownerState st).live ∧ (t.channel st).GatesLaw := by
    cases ho : (s.channel st).owner with
    | none =>
      obtain ⟨h1, h2, h3⟩ := hout st (by simp [ho])
      rw [State.ownerState_of_none (by rw [howner, ho]), h1, h2, hw.mode, hw.brake, State.ownerState_of_none ho]
      exact ⟨rfl, rfl, h3⟩
    | some o =>
      rw [State.ownerState_of_owner (by rw [howner, ho])]
      by_cases hk : o.handle = h
      · obtain ⟨k, role⟩ := o
        subst hk
        exact hin st role ho
      · obtain ⟨h1, h2, h3⟩ := hout st fun role => by rw [ho]; rintro ⟨⟩; exact hk rfl
        rw [h1, h2, hw.mode, hw.brake, State.ownerState_of_owner ho, hother _ hk]
        exact ⟨rfl, rfl, h3⟩
  refine hw.of_eq (fun k => ?_) howner (fun st => (hall st).1) (fun st => (hall st).2.1) fun st => (hall st).2.2
  by_cases hk : k = h
  · rw [hk, hmap]
  · rw [hother k hk]

/-- The move of one claim, its channels changed by `f`, which keeps owners and sets mode and brake for the new state. -/
theorem Wired.of_onStages {s t : State} (hw : Wired s) (h : Handle) (f : Channel → Channel) (hidem : ∀ k, f (f k) = f k)
    (hother : ∀ k, k ≠ h → t.claim k = s.claim k) (hmap : (t.claim h).stageMap = (s.claim h).stageMap)
    (hown : ∀ k, (f k).owner = k.owner)
    (hmode : ∀ k, k.mode = (s.claim h).state.mode → (f k).mode = (t.claim h).state.mode)
    (hbrake : ∀ k, k.brakeEngaged = (!(s.claim h).state.live) → (f k).brakeEngaged = !(t.claim h).state.live)
    (hgates : ∀ k, k.mode = (s.claim h).state.mode → k.GatesLaw → (f k).GatesLaw)
    (u : State) (hu : ∀ st, (u.channel st).owner = (s.channel st).owner ∧ (u.channel st).mode = (s.channel st).mode
      ∧ (u.channel st).brakeEngaged = (s.channel st).brakeEngaged ∧ ((u.channel st).GatesLaw))
    (hch : ∀ st, t.channel st = (u.onStages (s.claim h).stageMap f).channel st) : Wired t := by
  have hin (st : Stage) (role : Role) (ho : (s.channel st).owner = some ⟨h, role⟩) : t.channel st = f (u.channel st) := by
    obtain ⟨m, hm, hrole⟩ := (hw.owned h st role).2 ho
    have hst : st ∈ m.stages := (hw.mem_stages hm st).2 ⟨role, ho⟩
    rw [hch, hm, State.channel_onStages _ m f hidem, if_pos hst]
  have hout (st : Stage) (ho : ∀ role, (s.channel st).owner ≠ some ⟨h, role⟩) : t.channel st = u.channel st := by
    rw [hch]
    cases hm : (s.claim h).stageMap with
    | none => rfl
    | some m =>
      have hst : st ∉ m.stages := fun hst => (((hw.mem_stages hm st).1 hst).elim fun role => ho role)
      rw [State.channel_onStages _ m f hidem, if_neg hst]
  refine hw.of_move h hother hmap (fun st => ?_) (fun st ho => ?_) (fun st role ho => ?_)
  · by_cases ho : ∃ role, (s.channel st).owner = some ⟨h, role⟩
    · obtain ⟨role, ho⟩ := ho
      rw [hin st role ho, hown, (hu st).1]
    · rw [hout st (fun role hr => ho ⟨role, hr⟩), (hu st).1]
  · rw [hout st ho]
    exact ⟨(hu st).2.1, (hu st).2.2.1, (hu st).2.2.2⟩
  · have hstate := State.ownerState_of_owner ho
    have hm : (u.channel st).mode = (s.claim h).state.mode := by rw [(hu st).2.1, hw.mode, hstate]
    have hb : (u.channel st).brakeEngaged = !(s.claim h).state.live := by rw [(hu st).2.2.1, hw.brake, hstate]
    rw [hin st role ho]
    exact ⟨hmode _ hm, hbrake _ hb, hgates _ hm (hu st).2.2.2⟩

/-- What an abandoned ramp leaves of a channel: all but its ramped demand. -/
theorem State.abandonRamp_channel_frame (s : State) (h : Handle) (c : Claim) (st : Stage) :
    ((s.abandonRamp h c).channel st).owner = (s.channel st).owner
      ∧ ((s.abandonRamp h c).channel st).mode = (s.channel st).mode
      ∧ ((s.abandonRamp h c).channel st).brakeEngaged = (s.channel st).brakeEngaged
      ∧ ((s.channel st).GatesLaw → ((s.abandonRamp h c).channel st).GatesLaw) := by
  cases hm : c.stageMap with
  | none =>
    have e : s.abandonRamp h c = s := by simp [State.abandonRamp, hm]
    rw [e]
    exact ⟨rfl, rfl, rfl, id⟩
  | some m =>
    rw [State.channel_abandonRamp s h c m hm]
    exact ⟨rfl, rfl, rfl, id⟩

/-- An abandoned ramp takes no report away but release reports, and adds none. -/
theorem State.abandonRamp_reports_subset (s : State) (h : Handle) (c : Claim) :
    ∀ r ∈ (s.abandonRamp h c).reports, r ∈ s.reports := by
  unfold State.abandonRamp
  split
  · split
    · exact fun r hr => hr
    · exact fun r hr => (List.mem_filter.1 hr).1
  · exact fun r hr => hr

end Sys2Proof.Machine

namespace Sys2Proof.Machine

/-! ### Entries after a change of state (R8, R25) -/

/-- An entry changes in a way that takes nothing from another: it keeps what it holds of stages and floor, and neither
becomes live nor gains a grant. -/
structure Claim.Eases (c d : Claim) : Prop where
  law : c.Law → d.Law
  unbound : c.state = .unbound → d = c
  bound : c.state ≠ .unbound → d.state ≠ .unbound
  tripped : c.state = .tripped → d.state = .tripped
  live : d.state.live = true → c.state.live = true
  stageMap : d.stageMap = c.stageMap
  floorHeld : d.floorHeld = c.floorHeld
  driveGrant : d.driveGrant ≤ c.driveGrant
  returnGrant : d.returnGrant ≤ c.returnGrant
  lost : c.condition = some .lost → d.condition = some .lost

theorem Claim.Eases.refl (c : Claim) : c.Eases c := by constructor <;> simp

theorem Claim.Eases.trans {c d e : Claim} (h : c.Eases d) (h' : d.Eases e) : c.Eases e where
  law := h'.law ∘ h.law
  unbound hc := by
    have hd := h.unbound hc
    rw [h'.unbound (by rw [hd, hc]), hd]
  bound := h'.bound ∘ h.bound
  tripped := h'.tripped ∘ h.tripped
  live := h.live ∘ h'.live
  stageMap := h'.stageMap.trans h.stageMap
  floorHeld := h'.floorHeld.trans h.floorHeld
  driveGrant := h'.driveGrant.trans h.driveGrant
  returnGrant := h'.returnGrant.trans h.returnGrant
  lost := h'.lost ∘ h.lost

/-- A bound entry may go to TRIPPED, and to LOST with it. -/
theorem Claim.eases_tripped {c : Claim} (hb : c.state ≠ .unbound) (r : TripReason) : c.Eases (c.tripped r) where
  law h := by simp_all [Claim.Law, Claim.tripped, ClaimState.live]
  unbound h := absurd h hb
  bound _ := nofun
  tripped _ := rfl
  live h := by cases h
  stageMap := rfl
  floorHeld := rfl
  driveGrant := Nat.zero_le _
  returnGrant := Nat.zero_le _
  lost := id

theorem Claim.eases_braking {c : Claim} (hl : c.state.live = true) (time : Nat) : c.Eases (c.braking time) where
  law h := by
    have hb := (ClaimState.bound_iff _).1 (ClaimState.bound_of_live hl)
    have ht : c.state ≠ .tripped := fun e => by simp [e, ClaimState.live] at hl
    simp_all [Claim.Law, Claim.braking, ClaimState.live]
  unbound h := by simp [h, ClaimState.live] at hl
  bound _ := nofun
  tripped h := by simp [h, ClaimState.live] at hl
  live h := by cases h
  stageMap := rfl
  floorHeld := rfl
  driveGrant := Nat.zero_le _
  returnGrant := Nat.zero_le _
  lost := id

/-- An entry in HALTED (R45). -/
def Claim.halted (c : Claim) : Claim :=
  { c with state := .halted, driveGrant := 0, returnGrant := 0, brakeTimer := .stopped }

theorem Claim.eases_halted {c : Claim} (hs : c.state = .braking) : c.Eases c.halted where
  law h := by simp_all [Claim.Law, Claim.halted, ClaimState.live]
  unbound h := by simp [hs] at h
  bound _ := nofun
  tripped h := by simp [hs] at h
  live h := by cases h
  stageMap := rfl
  floorHeld := rfl
  driveGrant := Nat.zero_le _
  returnGrant := Nat.zero_le _
  lost := id

/-- An entry in RELEASING (R38). -/
def Claim.releasing (c : Claim) : Claim :=
  { c with state := .releasing, releaseBasis := some c.demand, refreshTimer := .stopped }

theorem Claim.eases_releasing {c : Claim} (hs : c.state = .run ∨ c.state = .stale) : c.Eases c.releasing where
  law h := by rcases hs with hs | hs <;> simp_all [Claim.Law, Claim.releasing, ClaimState.live]
  unbound h := by simp [h] at hs
  bound _ := nofun
  tripped h := by simp [h] at hs
  live _ := by rcases hs with hs | hs <;> simp [hs, ClaimState.live]
  stageMap := rfl
  floorHeld := rfl
  driveGrant := le_rfl
  returnGrant := le_rfl
  lost := id

/-- An entry in STALE (R32, R33). -/
def Claim.stale (c : Claim) (r : BaseRecord) : Claim :=
  let d := if r.flags.hold then r.holdDemand else 0
  { c with
    state := .stale, demand := d, estimate := r.estimate d c.sign c.band, side := drawSide d c.sign
    refreshTimer := .stopped }

theorem Claim.eases_stale {c : Claim} (hs : c.state = .run) (r : BaseRecord) : c.Eases (c.stale r) where
  law h := by simp_all [Claim.Law, Claim.stale, ClaimState.live]
  unbound h := by simp [hs] at h
  bound _ := nofun
  tripped h := by simp [hs] at h
  live _ := by simp [hs, ClaimState.live]
  stageMap := rfl
  floorHeld := rfl
  driveGrant := le_rfl
  returnGrant := le_rfl
  lost := id

/-- An entry with a new demand (R30). -/
def Claim.demanded (c : Claim) (d : DemandFields) : Claim :=
  { c with demand := d.demand, sign := d.sign, band := d.band, refreshTimer := .running (c.refreshWindow.getD 0) }

theorem Claim.eases_demanded {c : Claim} (hs : c.state = .run) (d : DemandFields) : c.Eases (c.demanded d) where
  law h := by simp_all [Claim.Law, Claim.demanded, ClaimState.live]
  unbound h := by simp [hs] at h
  bound := id
  tripped := id
  live := id
  stageMap := rfl
  floorHeld := rfl
  driveGrant := le_rfl
  returnGrant := le_rfl
  lost := id

theorem Claim.eases_estimated {c : Claim} (hs : c.state ≠ .unbound) (e : Nat) (sd : DrawSide) :
    c.Eases { c with estimate := e, side := sd } where
  law h := by simp_all [Claim.Law]
  unbound h := absurd h hs
  bound := id
  tripped := id
  live := id
  stageMap := rfl
  floorHeld := rfl
  driveGrant := le_rfl
  returnGrant := le_rfl
  lost := id

/-! ### Records after a read -/

/-- Record parts after repairs and upsets: the values that stand in them are values that stood in them. -/
structure ClaimRecords.Kept (r r' : ClaimRecords) : Prop where
  none : r = .none → r' = .none
  base : ∀ p, r.base = some p → ∃ q, r'.base = some q
    ∧ (q.primary.value = p.primary.value ∨ q.primary.value = p.shadow.value) ∧ q.shadow.value = p.shadow.value

theorem ClaimRecords.Kept.refl (r : ClaimRecords) : r.Kept r := ⟨id, fun p hp => ⟨p, hp, .inl rfl, rfl⟩⟩

theorem ClaimRecords.Kept.trans {r r' r'' : ClaimRecords} (h : r.Kept r') (h' : r'.Kept r'') : r.Kept r'' where
  none := h'.none ∘ h.none
  base p hp := by
    obtain ⟨q, hq, hprimary, hshadow⟩ := h.base p hp
    obtain ⟨q', hq', hprimary', hshadow'⟩ := h'.base q hq
    refine ⟨q', hq', ?_, hshadow'.trans hshadow⟩
    rcases hprimary' with e | e
    · rw [e]; exact hprimary
    · rw [e]; exact .inr hshadow

/-! ### Changes that take nothing from another claim -/

/-- The state `t` is reached from `s` by changes that ease claims, keep their channels wired, repair records, post notices
and call for passes. -/
structure Eased (s t : State) : Prop where
  claims : ∀ h, (s.claim h).Eases (t.claim h)
  table : t.table = s.table
  monitor : t.monitor = s.monitor
  safeOff : t.inputs.safeOff = s.inputs.safeOff
  passes : t.passes = s.passes ∨ t.passes = s.passes.call
  link : s.link.Noticed t.link
  free : t.memory.free = s.memory.free
  records : ∀ h, (s.recordsOf h).Kept (t.recordsOf h)
  wired : Wired s → Wired t
  reports : ReportsTrue s → ReportsTrue t

theorem Eased.refl (s : State) : Eased s s :=
  ⟨fun _ => .refl _, rfl, rfl, rfl, .inl rfl, .refl _, rfl, fun _ => .refl _, id, id⟩

theorem Eased.trans {s t u : State} (h : Eased s t) (h' : Eased t u) : Eased s u where
  claims k := (h.claims k).trans (h'.claims k)
  table := h'.table.trans h.table
  monitor := h'.monitor.trans h.monitor
  safeOff := h'.safeOff.trans h.safeOff
  passes := by
    rcases h.passes with e | e <;> rcases h'.passes with e' | e' <;> simp [e', e]
  link := h.link.trans h'.link
  free := h'.free.trans h.free
  records k := (h.records k).trans (h'.records k)
  wired := h'.wired ∘ h.wired
  reports := h'.reports ∘ h.reports

/-- Reports of the same conditions stay true. -/
theorem ReportsTrue.of_subset {s t : State} (hr : ReportsTrue s) (hsub : ∀ r ∈ t.reports, r ∈ s.reports)
    (hlost : ∀ h, (s.claim h).condition = some .lost → (t.claim h).condition = some .lost) : ReportsTrue t :=
  fun r hm hk => hlost _ (hr r (hsub r hm) hk)

theorem Eased.post (s : State) (n : Notice) : Eased s (s.post n) where
  claims _ := .refl _
  table := rfl
  monitor := rfl
  safeOff := rfl
  passes := .inl rfl
  link := s.post_noticed n
  free := rfl
  records _ := .refl _
  wired hw := hw.congr rfl rfl
  reports hr := hr

theorem Eased.callForPass (s : State) : Eased s s.callForPass where
  claims _ := .refl _
  table := rfl
  monitor := rfl
  safeOff := rfl
  passes := .inr rfl
  link := .refl _
  free := rfl
  records _ := .refl _
  wired hw := hw.congr rfl rfl
  reports hr := hr

/-! ### Repairs -/

/-- One handle's record parts replaced by parts that keep their values, whatever the repair counter shows. -/
theorem Eased.of_records {s t : State} (h : Handle) (r : ClaimRecords) (hr : (s.recordsOf h).Kept r)
    (ht : ∃ l n, s.link.Noticed l ∧ t = { s with
      link := l, memory := { s.memory with repairs := n, records := s.memory.records.set h.val r h.isLt } }) :
    Eased s t := by
  obtain ⟨l, n, hl, rfl⟩ := ht
  refine ⟨fun _ => .refl _, rfl, rfl, rfl, .inl rfl, hl, rfl, fun k => ?_, fun hw => hw.congr rfl rfl, fun hr => hr⟩
  by_cases hk : k = h
  · subst hk
    exact (s.recordsOf_setRecords_self k r).symm ▸ hr
  · exact (s.recordsOf_setRecords_of_ne h k r hk).symm ▸ .refl _

theorem Eased.readBase (s : State) (h : Handle) : Eased s (s.readBase h).2 := by
  rcases s.readBase_cases h with e | ⟨p, v, hp, -, -, e⟩
  · rw [e]; exact .refl s
  · rw [e]
    refine .of_records h { s.recordsOf h with base := some p.repair } ⟨?_, ?_⟩ ⟨_, _, s.post_noticed _, rfl⟩
    · intro hn; rw [hn] at hp; cases hp
    · intro q hq
      rw [hp] at hq
      cases hq
      exact ⟨_, rfl, .inr rfl, rfl⟩

theorem Eased.readOptional (s : State) (h : Handle) : Eased s (s.readOptional h).2 := by
  rcases s.readOptional_cases h with e | ⟨p, v, hp, -, -, e⟩
  · rw [e]; exact .refl s
  · rw [e]
    refine .of_records h { s.recordsOf h with optional := some p.repair } ⟨?_, ?_⟩ ⟨_, _, s.post_noticed _, rfl⟩
    · intro hn; rw [hn] at hp; cases hp
    · exact fun q hq => ⟨q, hq, .inl rfl, rfl⟩

/-! ### One entry changed alone -/

/-- An entry changes and keeps its mode and liveness: its channels need no change. -/
theorem Eased.setClaim {s : State} {h : Handle} {c : Claim} (he : (s.claim h).Eases c)
    (hmode : c.state.mode = (s.claim h).state.mode) (hlive : c.state.live = (s.claim h).state.live) :
    Eased s (s.setClaim h c) := by
  have each {P : Handle → Claim → Prop} (hP : P h c) (hrest : ∀ k, P k (s.claim k)) (k : Handle) :
      P k ((s.setClaim h c).claim k) := by
    by_cases hk : k = h
    · subst hk; rwa [State.claim_setClaim_self]
    · rw [State.claim_setClaim_of_ne _ _ _ _ hk]; exact hrest k
  refine ⟨each (P := fun k d => (s.claim k).Eases d) he fun _ => .refl _, rfl, rfl, rfl, .inl rfl, .refl _, rfl,
    fun _ => .refl _, fun hw => ?_, fun hr => ?_⟩
  · exact hw.of_states (each (P := fun k d => d.stageMap = (s.claim k).stageMap) he.stageMap fun _ => rfl)
      (each (P := fun k d => d.state.mode = (s.claim k).state.mode) hmode fun _ => rfl)
      (each (P := fun k d => d.state.live = (s.claim k).state.live) hlive fun _ => rfl)
      fun st => ⟨rfl, rfl, rfl, hw.gates st⟩
  · exact hr.of_subset (fun _ hm => hm)
      (each (P := fun k d => (s.claim k).condition = some .lost → d.condition = some .lost) he.lost fun _ => id)

/-! ### Entries to TRIPPED, BRAKING and HALTED -/

/-- One claim moves, its ramp abandoned and its channels changed by `f`. -/
theorem Wired.of_entry {s t : State} (hw : Wired s) (h : Handle) (d : Claim) (f : Channel → Channel)
    (hidem : ∀ k, f (f k) = f k) (hmap : d.stageMap = (s.claim h).stageMap) (hown : ∀ k, (f k).owner = k.owner)
    (hmode : ∀ k, k.mode = (s.claim h).state.mode → (f k).mode = d.state.mode)
    (hbrake : ∀ k, k.brakeEngaged = (!(s.claim h).state.live) → (f k).brakeEngaged = !d.state.live)
    (hgates : ∀ k, k.mode = (s.claim h).state.mode → k.GatesLaw → (f k).GatesLaw) (c : Claim)
    (ht : ∀ st, t.channel st = ((((s.setClaim h d).callForPass).abandonRamp h c).onStages
      (s.claim h).stageMap f).channel st)
    (hclaims : ∀ k, t.claim k = (s.setClaim h d).claim k) : Wired t := by
  have hself : t.claim h = d := by rw [hclaims, State.claim_setClaim_self]
  refine hw.of_onStages h f hidem (fun k hk => ?_) (by rw [hself, hmap]) hown (by rwa [hself]) (by rwa [hself]) hgates
    (((s.setClaim h d).callForPass).abandonRamp h c) (fun st => ?_) ht
  · rw [hclaims, State.claim_setClaim_of_ne _ _ _ _ hk]
  · obtain ⟨h1, h2, h3, h4⟩ := ((s.setClaim h d).callForPass).abandonRamp_channel_frame h c st
    exact ⟨h1, h2, h3, h4 (hw.gates st)⟩

theorem State.enterTripped_claim_self {s : State} {h : Handle} (r : TripReason) (hb : (s.claim h).state ≠ .unbound)
    (ht : (s.claim h).state ≠ .tripped) : (s.enterTripped h r).claim h = (s.claim h).tripped r := by
  rw [State.enterTripped_of_moves r hb ht]
  simp

theorem State.enterTripped_reports_subset (s : State) (h : Handle) (r : TripReason) :
    ∀ x ∈ (s.enterTripped h r).reports, x ∈ s.reports := by
  intro x hx
  by_cases hm : (s.claim h).state ≠ .unbound ∧ (s.claim h).state ≠ .tripped
  · rw [State.enterTripped_of_moves r hm.1 hm.2] at hx
    simp only [State.post_reports, State.onStages_reports] at hx
    exact ((s.setClaim h ((s.claim h).tripped r)).callForPass).abandonRamp_reports_subset h (s.claim h) x hx
  · rwa [State.enterTripped_of_idle r (by tauto)] at hx

theorem State.enterTripped_passes (s : State) (h : Handle) (r : TripReason) :
    (s.enterTripped h r).passes = s.passes ∨ (s.enterTripped h r).passes = s.passes.call := by
  by_cases hm : (s.claim h).state ≠ .unbound ∧ (s.claim h).state ≠ .tripped
  · rw [State.enterTripped_of_moves r hm.1 hm.2]
    exact .inr (by simp)
  · rw [State.enterTripped_of_idle r (by tauto)]
    exact .inl rfl

theorem State.enterTripped_wired (s : State) (h : Handle) (r : TripReason) (hw : Wired s) :
    Wired (s.enterTripped h r) := by
  by_cases hm : (s.claim h).state ≠ .unbound ∧ (s.claim h).state ≠ .tripped
  · refine hw.of_entry h ((s.claim h).tripped r) Channel.switchedOff (fun _ => rfl) rfl (fun _ => rfl) (fun _ _ => rfl)
      (fun _ _ => rfl) (fun _ _ _ _ => rfl) (s.claim h) (fun st => ?_) (fun k => ?_)
    · rw [State.enterTripped_of_moves r hm.1 hm.2]; rfl
    · rw [State.enterTripped_of_moves r hm.1 hm.2]; simp
  · rwa [State.enterTripped_of_idle r (by tauto)]

/-- Tripping a claim, whatever changed in its entry just before, when the change and the trip together ease it. -/
theorem Eased.enterTripped_of {s u : State} (h : Handle) (r : TripReason) (hu : ∀ k, k ≠ h → u.claim k = s.claim k)
    (hframe : u = { s with claims := u.claims }) (hmap : (u.claim h).stageMap = (s.claim h).stageMap)
    (hstate : (u.claim h).state = (s.claim h).state) (he : (s.claim h).Eases ((u.enterTripped h r).claim h)) :
    Eased s (u.enterTripped h r) := by
  have hclaims (k : Handle) : (s.claim k).Eases ((u.enterTripped h r).claim k) := by
    by_cases hk : k = h
    · subst hk; exact he
    · rw [u.enterTripped_claim_of_ne h k r hk, hu k hk]
      exact .refl _
  have hch (st : Stage) : u.channel st = s.channel st := by rw [hframe]; rfl
  refine ⟨hclaims, ?_, ?_, ?_, ?_, ?_, ?_, ?_, fun hw => ?_, fun hr => ?_⟩
  · rw [State.enterTripped_table, hframe]
  · rw [State.enterTripped_monitor, hframe]
  · rw [State.enterTripped_inputs, hframe]
  · have := u.enterTripped_passes h r
    rwa [show u.passes = s.passes by rw [hframe]] at this
  · exact LinkPort.Noticed.trans (.of_eq (by rw [hframe])) (u.enterTripped_noticed h r)
  · rw [State.enterTripped_memory, hframe]
  · intro k
    rw [State.recordsOf_congr (s := u.enterTripped h r) (t := s) (by rw [State.enterTripped_memory, hframe])]
    exact .refl _
  · refine u.enterTripped_wired h r (hw.of_states (fun k => ?_) (fun k => ?_) (fun k => ?_) fun st => ?_)
    · by_cases hk : k = h
      · rw [hk, hmap]
      · rw [hu k hk]
    · by_cases hk : k = h
      · rw [hk, hstate]
      · rw [hu k hk]
    · by_cases hk : k = h
      · rw [hk, hstate]
      · rw [hu k hk]
    · rw [hch]
      exact ⟨rfl, rfl, rfl, hw.gates st⟩
  · refine hr.of_subset (fun x hx => ?_) fun k => (hclaims k).lost
    have := u.enterTripped_reports_subset h r x hx
    rwa [hframe] at this

theorem Eased.enterTripped (s : State) (h : Handle) (r : TripReason) : Eased s (s.enterTripped h r) := by
  refine .enterTripped_of h r (fun _ _ => rfl) rfl rfl rfl ?_
  by_cases hm : (s.claim h).state ≠ .unbound ∧ (s.claim h).state ≠ .tripped
  · rw [State.enterTripped_claim_self r hm.1 hm.2]
    exact Claim.eases_tripped hm.1 r
  · rw [State.enterTripped_of_idle r (by tauto)]
    exact .refl _

/-- A bound entry found LOST is TRIPPED with it (R50). -/
theorem Claim.eases_lost {c : Claim} (hb : c.state ≠ .unbound) :
    c.Eases ({ c with condition := some .lost } : Claim) ∨ c.state ≠ .tripped := by
  by_cases ht : c.state = .tripped
  · exact .inl ⟨fun h => by simp_all [Claim.Law], fun h => absurd h hb, id, id, id, rfl, rfl, le_rfl, le_rfl, fun _ => rfl⟩
  · exact .inr ht

theorem Claim.eases_lost_tripped {c : Claim} (hb : c.state ≠ .unbound) :
    c.Eases (({ c with condition := some .lost } : Claim).tripped .recordLost) where
  law h := by simp_all [Claim.Law, Claim.tripped, ClaimState.live]
  unbound h := absurd h hb
  bound _ := nofun
  tripped _ := rfl
  live h := by cases h
  stageMap := rfl
  floorHeld := rfl
  driveGrant := Nat.zero_le _
  returnGrant := Nat.zero_le _
  lost _ := rfl

/-- A record part found lost makes the claim LOST and TRIPPED (R50). -/
theorem Eased.recordLost (s : State) (h : Handle) : Eased s (s.recordLost h) := by
  by_cases hb : (s.claim h).state = .unbound
  · rw [State.recordLost, if_neg (by simp [hb, ClaimState.bound])]
    exact .refl s
  rw [State.recordLost_of_bound hb]
  refine .enterTripped_of h .recordLost (fun k hk => s.claim_setClaim_of_ne h k _ hk) rfl
    (by rw [State.claim_setClaim_self]) (by rw [State.claim_setClaim_self]) ?_
  by_cases ht : (s.claim h).state = .tripped
  · rw [State.enterTripped_of_idle .recordLost (.inr (by rw [State.claim_setClaim_self]; exact ht)),
      State.claim_setClaim_self]
    exact (Claim.eases_lost hb).resolve_right (absurd ht)
  · rw [State.enterTripped_claim_self .recordLost (by rw [State.claim_setClaim_self]; exact hb)
      (by rw [State.claim_setClaim_self]; exact ht), State.claim_setClaim_self]
    exact Claim.eases_lost_tripped hb

theorem Eased.tableRead (s : State) (h : Handle) : Eased s (s.tableRead h).2 := by
  rw [s.tableRead_eq h]
  rcases (s.readBase h).1 with _ | r
  · exact (Eased.readBase s h).trans (.recordLost _ _)
  · exact .readBase s h

/-- An entry of a claim that ends with its channels changed by `f` (R43, R45). -/
theorem Eased.entry {s : State} {h : Handle} {d : Claim} (he : (s.claim h).Eases d) (f : Channel → Channel)
    (hidem : ∀ k, f (f k) = f k) (hown : ∀ k, (f k).owner = k.owner)
    (hmode : ∀ k, k.mode = (s.claim h).state.mode → (f k).mode = d.state.mode)
    (hbrake : ∀ k, k.brakeEngaged = (!(s.claim h).state.live) → (f k).brakeEngaged = !d.state.live)
    (hgates : ∀ k, k.mode = (s.claim h).state.mode → k.GatesLaw → (f k).GatesLaw) :
    Eased s ((((s.setClaim h d).callForPass).abandonRamp h (s.claim h)).onStages (s.claim h).stageMap f) := by
  have hclaims (k : Handle) : ((((s.setClaim h d).callForPass).abandonRamp h (s.claim h)).onStages
      (s.claim h).stageMap f).claim k = (s.setClaim h d).claim k := by simp
  have hall (k : Handle) : (s.claim k).Eases ((s.setClaim h d).claim k) := by
    by_cases hk : k = h
    · subst hk; rwa [State.claim_setClaim_self]
    · rw [State.claim_setClaim_of_ne _ _ _ _ hk]; exact .refl _
  refine ⟨fun k => hclaims k ▸ hall k, by simp, by simp, by simp, .inr (by simp), .of_eq (by simp), by simp, fun k => ?_,
    fun hw => ?_, fun hr => ?_⟩
  · rw [State.recordsOf_onStages, State.recordsOf_congr (State.abandonRamp_memory _ _ _)]
    exact .refl _
  · exact hw.of_entry h d f hidem he.stageMap hown hmode hbrake hgates (s.claim h) (fun _ => rfl) hclaims
  · refine hr.of_subset (fun x hx => ?_) fun k => hclaims k ▸ (hall k).lost
    simp only [State.onStages_reports] at hx
    exact ((s.setClaim h d).callForPass).abandonRamp_reports_subset h (s.claim h) x hx

theorem ClaimState.live_mode {x : ClaimState} (h : x.live = true) : x.mode = .regulate := by cases x <;> simp_all [ClaimState.live, ClaimState.mode]

theorem Eased.enterBraking {s : State} {h : Handle} (hl : (s.claim h).state.live = true) :
    Eased s (s.enterBraking h) := by
  rcases hr : s.readBase h with ⟨_ | r, u⟩
  · have e := Eased.tableRead s h
    rw [State.tableRead_of_none hr] at e
    rwa [State.enterBraking, State.tableRead_of_none hr]
  · have hu : Eased s u := by simpa [hr] using Eased.readBase s h
    have hlu : (u.claim h).state.live = true := by
      rw [show u = (s.readBase h).2 by rw [hr], State.claim_readBase]; exact hl
    rw [State.enterBraking_of_some hr]
    refine hu.trans (.entry (Claim.eases_braking hlu r.brakeTime) Channel.braked (fun _ => rfl) (fun _ => rfl)
      (fun _ _ => rfl) (fun _ _ => rfl) fun k hk hg => ?_)
    rintro (he | he)
    · cases he
    · exact hg (.inr he)

theorem Eased.brakeAll (s : State) (hs : List Handle) : Eased s (s.brakeAll hs).2 := by
  induction hs generalizing s with
  | nil => exact .refl s
  | cons h hs ih =>
    rw [State.brakeAll_cons]
    split
    · rename_i hl
      exact (Eased.enterBraking hl).trans (ih _)
    · exact ih s

/-- A claim that is not RELEASING has no ramp to abandon. -/
theorem State.abandonRamp_of_ne {s : State} {h : Handle} {c : Claim} (hc : c.state ≠ .releasing) :
    s.abandonRamp h c = s := if_neg hc

theorem State.enterHalted_eq {s : State} {h : Handle} :
    s.enterHalted h = (((s.setClaim h (s.claim h).halted).callForPass).onStages (s.claim h).stageMap
      (fun k => { k with mode := .off, gates := .off })).post (.halted h) := rfl

theorem Eased.enterHalted {s : State} {h : Handle} (hs : (s.claim h).state = .braking) : Eased s (s.enterHalted h) := by
  have e := Eased.entry (Claim.eases_halted hs) (fun k => { k with mode := .off, gates := .off }) (fun _ => rfl)
    (fun _ => rfl) (fun _ _ => rfl) (fun k hk => by rw [hs] at hk; exact hk) (fun _ _ _ _ => rfl)
  rw [State.abandonRamp_of_ne (by simp [hs])] at e
  rw [State.enterHalted_eq]
  exact e.trans (.post _ _)

/-! ### The events of a claim -/

theorem Eased.setEstimate {s : State} {h : Handle} (hb : (s.claim h).state ≠ .unbound) (e : Nat) (sd : DrawSide) :
    Eased s (s.setEstimate h e sd) := by
  unfold State.setEstimate
  dsimp only
  split
  · exact .refl s
  · exact (Eased.setClaim (Claim.eases_estimated hb e sd) rfl rfl).trans (.callForPass _)

/-- An exact repetition replaces the values and restarts the refresh timer (R30). -/
theorem State.applyDemand_of_same {s : State} {h : Handle} {d : DemandFields}
    (he : (s.claim h).demand = d.demand ∧ (s.claim h).sign = d.sign ∧ (s.claim h).band = d.band) :
    s.applyDemand h d = s.setClaim h ((s.claim h).demanded d) := if_pos he

/-- A new demand whose read finds the record lost trips the claim (R11). -/
theorem State.applyDemand_of_none {s u : State} {h : Handle} {d : DemandFields}
    (he : ¬((s.claim h).demand = d.demand ∧ (s.claim h).sign = d.sign ∧ (s.claim h).band = d.band))
    (hr : (s.setClaim h ((s.claim h).demanded d)).tableRead h = (none, u)) : s.applyDemand h d = u := by
  simp only [Claim.demanded] at hr
  simp only [State.applyDemand, if_neg he, hr]

/-- A new demand whose read finds the record puts the estimate and side in force (R13, R30). -/
theorem State.applyDemand_of_some {s u : State} {h : Handle} {d : DemandFields} {r : BaseRecord}
    (he : ¬((s.claim h).demand = d.demand ∧ (s.claim h).sign = d.sign ∧ (s.claim h).band = d.band))
    (hr : (s.setClaim h ((s.claim h).demanded d)).tableRead h = (some r, u)) :
    s.applyDemand h d = u.setEstimate h (r.estimate d.demand d.sign d.band) (drawSide d.demand d.sign) := by
  simp only [Claim.demanded] at hr
  simp only [State.applyDemand, if_neg he, hr]

theorem Eased.applyDemand {s : State} {h : Handle} (hs : (s.claim h).state = .run) (d : DemandFields) :
    Eased s (s.applyDemand h d) := by
  have hset : Eased s (s.setClaim h ((s.claim h).demanded d)) := .setClaim (Claim.eases_demanded hs d) rfl rfl
  by_cases he : (s.claim h).demand = d.demand ∧ (s.claim h).sign = d.sign ∧ (s.claim h).band = d.band
  · rwa [State.applyDemand_of_same he]
  have hread := hset.trans (.tableRead _ h)
  rcases hr : (s.setClaim h ((s.claim h).demanded d)).tableRead h with ⟨_ | r, u⟩
  · rw [hr] at hread
    rwa [State.applyDemand_of_none he hr]
  · rw [hr] at hread
    rw [State.applyDemand_of_some he hr]
    exact hread.trans (.setEstimate ((hread.claims h).bound (by simp [hs])) _ _)

theorem Eased.enterStale {s : State} {h : Handle} (hs : (s.claim h).state = .run) : Eased s (s.enterStale h) := by
  rcases hr : s.readBase h with ⟨_ | r, u⟩
  · have e := Eased.tableRead s h
    rw [State.tableRead_of_none hr] at e
    rwa [State.enterStale, State.tableRead_of_none hr]
  · have hu : Eased s u := by simpa [hr] using Eased.readBase s h
    have hsu : (u.claim h).state = .run := by
      rw [show u = (s.readBase h).2 by rw [hr], State.claim_readBase]; exact hs
    rw [State.enterStale, State.tableRead_of_some hr]
    exact ((hu.trans (.setClaim (c := (u.claim h).stale r) (Claim.eases_stale hsu r) (by rw [hsu]; rfl)
      (by rw [hsu]; rfl))).trans (.callForPass _)).trans (.post _ _)

/-- Channels changed in nothing that the wiring sees, and entries not at all. -/
theorem Eased.of_channels {s t : State} (hclaims : ∀ h, t.claim h = s.claim h) (htable : t.table = s.table)
    (hmonitor : t.monitor = s.monitor) (hinputs : t.inputs.safeOff = s.inputs.safeOff) (hpasses : t.passes = s.passes)
    (hlink : s.link.Noticed t.link) (hmemory : t.memory = s.memory)
    (hreports : ∀ r ∈ t.reports, r ∈ s.reports ∨ r.kind ≠ .trip .recordLost)
    (hch : Wired s → ∀ st, (t.channel st).owner = (s.channel st).owner ∧ (t.channel st).mode = (s.channel st).mode
      ∧ (t.channel st).brakeEngaged = (s.channel st).brakeEngaged ∧ (t.channel st).GatesLaw) : Eased s t := by
  refine ⟨fun h => hclaims h ▸ .refl _, htable, hmonitor, hinputs, .inl hpasses, hlink, by rw [hmemory], fun h => ?_,
    fun hw => ?_, fun hr r hm hk => ?_⟩
  · rw [State.recordsOf_congr hmemory]; exact .refl _
  · exact hw.of_states (fun h => by rw [hclaims]) (fun h => by rw [hclaims]) (fun h => by rw [hclaims]) (hch hw)
  · rw [hclaims]
    exact hr r ((hreports r hm).resolve_right (absurd hk)) hk

theorem Eased.enterReleasing {s : State} {h : Handle} (hs : (s.claim h).state = .run ∨ (s.claim h).state = .stale) :
    Eased s (s.enterReleasing h) := by
  have hset : Eased s (s.setClaim h (s.claim h).releasing) := by
    refine .setClaim (Claim.eases_releasing hs) ?_ ?_
    · rcases hs with hs | hs <;> rw [hs] <;> rfl
    · rcases hs with hs | hs <;> rw [hs] <;> rfl
  unfold State.enterReleasing
  dsimp only
  split
  · exact hset
  · rename_i m hm
    refine hset.trans (.of_channels (fun _ => rfl) rfl rfl rfl rfl (.refl _) rfl (fun r hr => .inl hr) fun hw st => ?_)
    rw [State.channel_modChannel]
    split
    · subst_vars; exact ⟨rfl, rfl, rfl, hw.gates _⟩
    · exact ⟨rfl, rfl, rfl, hw.gates _⟩

theorem Eased.tripAll (s : State) : Eased s s.tripAll := by
  unfold State.tripAll
  generalize Handle.all = hs
  induction hs generalizing s with
  | nil => exact .refl s
  | cons h hs ih => exact (Eased.enterTripped s h .safeOff).trans (ih _)

theorem Eased.takeTrip (s : State) (r : Report) : Eased s (s.takeTrip r) := by
  unfold State.takeTrip
  split
  · split
    · exact .recordLost s _
    · exact .enterTripped s _ _
    · exact .enterTripped s _ _
    · exact .enterTripped s _ _
    · exact .enterTripped s _ _
    · exact .refl s
  · exact .refl s

theorem Eased.readForPass (acc : List SnapshotEntry × State) (h : Handle) : Eased acc.2 (readForPass acc h).2 := by
  have e := Eased.tableRead acc.2 h
  unfold Machine.readForPass
  split
  · split <;> simp_all
  · exact .refl _

theorem Eased.readsForPass (acc : List SnapshotEntry × State) (hs : List Handle) :
    Eased acc.2 (hs.foldl Machine.readForPass acc).2 := by
  induction hs generalizing acc with
  | nil => exact .refl _
  | cons h hs ih => exact (Eased.readForPass acc h).trans (ih _)

end Sys2Proof.Machine

namespace Sys2Proof.Machine

/-! ### The work of the channels -/

/-- A channel's work at an expiry or a fault: owner, mode and brake stand, and gates stay off where they must be. -/
structure Channel.Worked (k k' : Channel) : Prop where
  owner : k'.owner = k.owner
  mode : k'.mode = k.mode
  brake : k'.brakeEngaged = k.brakeEngaged
  gates : k.GatesLaw → k'.GatesLaw

theorem Channel.Worked.refl (k : Channel) : k.Worked k := ⟨rfl, rfl, rfl, id⟩

theorem Channel.Worked.trans {k k' k'' : Channel} (h : k.Worked k') (h' : k'.Worked k'') : k.Worked k'' :=
  ⟨h'.owner.trans h.owner, h'.mode.trans h.mode, h'.brake.trans h.brake, h'.gates ∘ h.gates⟩

theorem Channel.worked_hold (k : Channel) : k.Worked k.hold := ⟨rfl, rfl, rfl, fun _ _ => rfl⟩

theorem Channel.worked_gatesOff (k : Channel) : k.Worked { k with gates := .off } := ⟨rfl, rfl, rfl, fun _ _ => rfl⟩

theorem Channel.worked_drive {k : Channel} (hk : k.mode ≠ .off) (r : BaseRecord) (x : Int) (y : StageSample) :
    k.Worked (k.drive r x y) := by
  refine ⟨rfl, rfl, rfl, fun _ => ?_⟩
  rintro (h | h)
  · exact absurd h hk
  · exact if_pos h

theorem Channel.worked_applyBraking {k : Channel} (hk : k.mode ≠ .off) : k.Worked k.applyBraking := by
  unfold Channel.applyBraking
  split
  · exact .refl k
  · rename_i hf
    exact ⟨rfl, rfl, rfl, fun _ h => h.elim (fun h => absurd h hk) fun h => absurd h hf⟩

/-- All channels have worked. -/
def State.Worked (s t : State) : Prop := ∀ st, (s.channel st).Worked (t.channel st)

theorem State.Worked.refl (s : State) : s.Worked s := fun _ => .refl _

theorem State.Worked.trans {s t u : State} (h : s.Worked t) (h' : t.Worked u) : s.Worked u := fun st => (h st).trans (h' st)

theorem State.Worked.of_channels {s t : State} (h : t.channels = s.channels) : s.Worked t :=
  fun st => State.channel_congr h st ▸ .refl _

theorem State.Worked.modChannel {s : State} {st : Stage} {f : Channel → Channel}
    (hf : (s.channel st).Worked (f (s.channel st))) : s.Worked (s.modChannel st f) := by
  intro x
  rw [State.channel_modChannel]
  split
  · subst_vars; exact hf
  · exact .refl _

theorem State.Worked.onStages {s : State} {m : StageMap} {f : Channel → Channel} (hidem : ∀ k, f (f k) = f k)
    (hf : ∀ st ∈ m.stages, (s.channel st).Worked (f (s.channel st))) : s.Worked (s.onStages (some m) f) := by
  intro x
  rw [State.channel_onStages s m f hidem]
  split
  · exact hf x ‹_›
  · exact .refl _

/-- No stage of a live or braking claim has its channel in OFF. -/
theorem Wired.mode_ne_off {s : State} (hw : Wired s) {h : Handle} {m : StageMap} (hm : (s.claim h).stageMap = some m)
    (hmode : (s.claim h).state.mode ≠ .off) : ∀ st ∈ m.stages, (s.channel st).mode ≠ .off := by
  intro st hst
  obtain ⟨role, ho⟩ := (hw.mem_stages hm st).1 hst
  rwa [hw.mode, State.ownerState_of_owner ho]

theorem StageMap.partner_mem {m : StageMap} {p : Stage} (hp : m.partner = some p) : p ∈ m.stages := by
  simp [StageMap.stages, hp]

theorem State.recordShort_worked (s : State) (st : Stage) (h : Handle) (a b : Bool) :
    s.Worked (s.recordShort st h a b) := by
  unfold State.recordShort
  split
  · dsimp only
    have hmod : s.Worked (s.modChannel st fun k =>
        { k with shortfall := satInc Config.shortfallMax k.shortfall, shortFlag := true }) :=
      .modChannel ⟨rfl, rfl, rfl, id⟩
    split
    · exact hmod
    · exact hmod
  · exact .modChannel ⟨rfl, rfl, rfl, id⟩

theorem State.regulateToward_worked {s : State} {st : Stage} {m : StageMap} (hst : (s.channel st).mode ≠ .off)
    (hp : ∀ p, m.partner = some p → (s.channel p).mode ≠ .off) (h : Handle) (c : Claim) (r : BaseRecord)
    (o : Option OptionalRecord) (d : Int) (x y : StageSample) : s.Worked (s.regulateToward st h c m r o d x y) := by
  unfold State.regulateToward
  dsimp only
  have hshort (a b : Bool) := s.recordShort_worked st h a b
  have hdrive (u : State) (hu : s.Worked u) (z : Stage) (hz : (s.channel z).mode ≠ .off) (w : Int) (sample : StageSample) :
      s.Worked (u.modChannel z fun k => k.drive r w sample) :=
    hu.trans (.modChannel (Channel.worked_drive (by rwa [(hu z).mode]) r w sample))
  cases hm : m.partner with
  | none => exact hdrive _ (hshort _ _) st hst _ _
  | some p => exact hdrive _ (hdrive _ (hshort _ _) st hst _ _) p (hp p hm) _ _

theorem State.rampAndRegulate_worked {s : State} {st : Stage} {m : StageMap} (hst : (s.channel st).mode ≠ .off)
    (hp : ∀ p, m.partner = some p → (s.channel p).mode ≠ .off) (h : Handle) (c : Claim) (r : BaseRecord)
    (o : Option OptionalRecord) (x y : StageSample) : s.Worked (s.rampAndRegulate st h c m r o x y) := by
  unfold State.rampAndRegulate
  split
  · dsimp only
    have hramp (v : Int) : s.Worked (s.modChannel st fun k => { k with ramped := v }) := .modChannel ⟨rfl, rfl, rfl, id⟩
    split
    · exact (hramp _).trans (State.Worked.onStages (fun _ => rfl) fun z _ => Channel.worked_gatesOff _)
    · exact (hramp _).trans (State.regulateToward_worked (by rwa [(hramp _ st).mode])
        (fun p hm => by rw [(hramp _ p).mode]; exact hp p hm) _ _ _ _ _ _ _)
  · exact State.regulateToward_worked hst hp _ _ _ _ _ _ _

theorem State.channelTrip_worked (s : State) (st : Stage) (h : Handle) (m : StageMap) (r : TripReason) :
    s.Worked (s.channelTrip st h m r) :=
  State.Worked.onStages (fun _ => rfl) fun _ _ => Channel.worked_hold _

theorem State.balanceAndRegulate_worked {s : State} {st : Stage} {m : StageMap} (hst : (s.channel st).mode ≠ .off)
    (hp : ∀ p, m.partner = some p → (s.channel p).mode ≠ .off) (h : Handle) (c : Claim) (r : BaseRecord)
    (o : Option OptionalRecord) (x y : StageSample) : s.Worked (s.balanceAndRegulate st h c m r o x y) := by
  unfold State.balanceAndRegulate
  split
  · dsimp only
    have hcount (v : Nat) : s.Worked (s.modChannel st fun k => { k with imbalance := v }) :=
      .modChannel ⟨rfl, rfl, rfl, id⟩
    split
    · exact (hcount _).trans (State.channelTrip_worked _ _ _ _ _)
    · exact (hcount _).trans (State.rampAndRegulate_worked (by rwa [(hcount _ st).mode])
        (fun p hm => by rw [(hcount _ p).mode]; exact hp p hm) _ _ _ _ _ _)
  · exact State.rampAndRegulate_worked hst hp _ _ _ _ _ _
  · exact State.rampAndRegulate_worked hst hp _ _ _ _ _ _

/-- An expiry's work adds no report of a lost record. -/
theorem State.balanceAndRegulate_reports (s : State) (st : Stage) (h : Handle) (c : Claim) (m : StageMap) (r : BaseRecord)
    (o : Option OptionalRecord) (x y : StageSample) :
    ∀ q ∈ (s.balanceAndRegulate st h c m r o x y).reports, q ∈ s.reports ∨ q.kind ≠ .trip .recordLost := by
  have hramp (u : State) : ∀ q ∈ (u.rampAndRegulate st h c m r o x y).reports, q ∈ u.reports ∨ q.kind ≠ .trip .recordLost := by
    intro q hq
    unfold State.rampAndRegulate at hq
    split at hq
    · dsimp only at hq
      split at hq
      · simp only [State.report, State.onStages_reports, State.modChannel_reports, List.mem_append, List.mem_singleton] at hq
        exact hq.imp id fun e => by rw [e]; nofun
      · exact .inl (by simpa using hq)
    · exact .inl (by simpa using hq)
  intro q hq
  unfold State.balanceAndRegulate at hq
  split at hq
  · dsimp only at hq
    split at hq
    · simp only [State.channelTrip, State.report, State.onStages_reports, State.modChannel_reports, List.mem_append,
        List.mem_singleton] at hq
      exact hq.imp id fun e => by rw [e]; nofun
    · exact hramp (s.modChannel st _) q hq
  · exact hramp s q hq
  · exact hramp s q hq

theorem Eased.of_work {s t : State} (hclaims : ∀ h, t.claim h = s.claim h) (htable : t.table = s.table)
    (hmonitor : t.monitor = s.monitor) (hinputs : t.inputs.safeOff = s.inputs.safeOff) (hpasses : t.passes = s.passes)
    (hlink : s.link.Noticed t.link) (hmemory : t.memory = s.memory)
    (hreports : ∀ r ∈ t.reports, r ∈ s.reports ∨ r.kind ≠ .trip .recordLost) (hw : Wired s → s.Worked t) :
    Eased s t :=
  .of_channels hclaims htable hmonitor hinputs hpasses hlink hmemory hreports fun hs st =>
    ⟨(hw hs st).owner, (hw hs st).mode, (hw hs st).brake, (hw hs st).gates (hs.gates st)⟩

theorem Eased.readRecords (s : State) (h : Handle) (c : ClaimClass) : Eased s (s.readRecords h c).2 := by
  have e := Eased.readBase s h
  unfold State.readRecords
  split
  · simp_all
  · rename_i r t hr
    have e' := Eased.readOptional t h
    have ht : Eased s t := by simp_all
    split
    · exact ht
    · refine ht.trans ?_
      split <;> simp_all
    · refine ht.trans ?_
      split <;> simp_all

theorem Eased.channelTrip (s : State) (st : Stage) (h : Handle) (m : StageMap) {r : TripReason} (hr : r ≠ .recordLost) :
    Eased s (s.channelTrip st h m r) := by
  refine .of_work (fun k => State.claim_congr (s.channelTrip_claims st h m r) k) (by simp) (by simp) (by simp) (by simp)
    (.of_eq (by simp)) (by simp) (fun q hq => ?_) fun _ => s.channelTrip_worked st h m r
  simp only [State.channelTrip, State.report, State.onStages_reports, List.mem_append, List.mem_singleton] at hq
  refine hq.imp id fun e => ?_
  rw [e]
  simpa using hr

/-- Steps that change the reports on the way ease the claims when the reports are true at the end. -/
theorem Eased.of_reports {s u t : State} (h : Eased s { u with reports := s.reports }) (h' : Eased u t)
    (hr : ReportsTrue s → ReportsTrue t) : Eased s t where
  claims k := (h.claims k).trans (h'.claims k)
  table := h'.table.trans h.table
  monitor := h'.monitor.trans h.monitor
  safeOff := h'.safeOff.trans h.safeOff
  passes := by
    rcases (show u.passes = s.passes ∨ u.passes = s.passes.call from h.passes) with e | e <;>
      rcases h'.passes with e' | e' <;> simp [e', e]
  link := h.link.trans h'.link
  free := h'.free.trans h.free
  records k := (h.records k).trans (h'.records k)
  wired hw := h'.wired ((h.wired hw).congr rfl rfl)
  reports := hr

theorem State.recordLost_reports_subset (s : State) (h : Handle) : ∀ x ∈ (s.recordLost h).reports, x ∈ s.reports := by
  unfold State.recordLost
  dsimp only
  split
  · exact State.enterTripped_reports_subset (s.setClaim h _) h .recordLost
  · exact fun x hx => hx

theorem State.recordLost_condition {s : State} {h : Handle} (hb : (s.claim h).state ≠ .unbound) :
    ((s.recordLost h).claim h).condition = some .lost := by
  rw [State.recordLost_of_bound hb]
  exact (((Eased.enterTripped (s.setClaim h { s.claim h with condition := some .lost }) h .recordLost)).claims h).lost
    (by rw [State.claim_setClaim_self])

/-- A channel's read that finds a part lost (R61, log 12): its report names a claim that is LOST already. -/
theorem Eased.channelFindsLost {s : State} {st : Stage} {h : Handle} {m : StageMap} (hb : (s.claim h).state ≠ .unbound) :
    Eased s (s.channelFindsLost st h m) := by
  have hc (k : Handle) : (s.channelTrip st h m .recordLost).claim k = s.claim k := State.claim_congr (by simp) k
  have hwork : Eased s { s.channelTrip st h m .recordLost with reports := s.reports } :=
    .of_work hc (by simp) (by simp) (by simp) (by simp) (.of_eq (by simp)) (by simp) (fun q hq => .inl hq)
      fun _ => s.channelTrip_worked st h m .recordLost
  have hlost := Eased.recordLost (s.channelTrip st h m .recordLost) h
  refine .of_reports hwork hlost fun hr q hq hk => ?_
  have hq' := State.recordLost_reports_subset _ _ q hq
  simp only [State.channelTrip, State.report, State.onStages_reports, List.mem_append, List.mem_singleton] at hq'
  rcases hq' with hq' | rfl
  · refine (hlost.claims q.handle).lost ?_
    rw [hc]
    exact hr q hq' hk
  · exact State.recordLost_condition (by rw [hc]; exact hb)

theorem Eased.regulate {s : State} {st : Stage} {h : Handle} {x y : StageSample}
    (hst : (s.channel st).owner = some ⟨h, .primary⟩) : Eased s (s.regulate st h x y) := by
  unfold State.regulate
  dsimp only
  split
  · exact .refl s
  · rename_i m hm
    have e := Eased.readRecords s h m.cls
    have hch (z : Stage) : (s.readRecords h m.cls).2.channel z = s.channel z := State.channel_congr (by simp) z
    split
    · rename_i hl
      have hb := (ClaimState.bound_iff _).1 (ClaimState.bound_of_live hl)
      split
      · rename_i u hu
        rw [hu] at e
        exact e.trans (.channelFindsLost ((e.claims h).bound hb))
      · rename_i r o u hu
        rw [hu] at e hch
        refine e.trans ?_
        split
        · exact .channelTrip u st h m (by nofun)
        · refine .of_work (fun k => State.claim_congr (by simp) k) (by simp) (by simp) (by simp) (by simp)
            (u.balanceAndRegulate_noticed _ _ _ _ _ _ _ _) (by simp) (u.balanceAndRegulate_reports _ _ _ _ _ _ _ _)
            fun hw => ?_
          have hmu : (u.claim h).stageMap = some m := by rw [(e.claims h).stageMap, hm]
          have hclu : u.claim h = s.claim h := by
            have := State.claim_congr (s.readRecords_claims h m.cls) h
            rwa [hu] at this
          have hmode : (u.claim h).state.mode ≠ .off := by rw [hclu, ClaimState.live_mode hl]; nofun
          have hon := hw.mode_ne_off hmu hmode
          refine State.balanceAndRegulate_worked (hon st ?_) (fun p hp => hon p (StageMap.partner_mem hp)) _ _ _ _ _ _
          exact (hw.mem_stages hmu st).2 ⟨.primary, by rw [hch, hst]⟩
    · exact .refl s

theorem Eased.expire (s : State) (st : Stage) (x y : StageSample) : Eased s (s.expire st x y) := by
  unfold State.expire
  dsimp only
  split
  · exact .refl s
  · rename_i o ho
    split
    · exact .refl s
    · rename_i hrole
      split
      · exact .refl s
      · split
        · exact .refl s
        · rename_i hmode
          refine .of_work (fun k => State.claim_onStages _ _ _ _) (by simp) (by simp) (by simp) (by simp)
            (.of_eq (by simp)) (by simp) (fun q hq => .inl (by simpa using hq)) fun hw => ?_
          cases hm : (s.claim o.handle).stageMap with
          | none => exact .refl s
          | some m =>
            have hclaim : (s.claim o.handle).state.mode = .brake := by
              rw [← State.ownerState_of_owner ho, ← hw.mode, hmode]
            refine .onStages (fun k => ?_) fun z hz => Channel.worked_applyBraking
              (hw.mode_ne_off hm (by rw [hclaim]; nofun) z hz)
            unfold Channel.applyBraking
            split <;> simp_all
        · refine .regulate ?_
          rw [ho]
          obtain ⟨k, role⟩ := o
          cases hrole
          rfl

theorem Eased.setStageFault (s : State) (st : Stage) (b : Bool) : Eased s (s.setStageFault st b) :=
  .of_work (fun _ => rfl) rfl rfl rfl rfl (.refl _) rfl (fun _ hr => .inl hr) fun _ => .of_channels rfl

theorem Eased.stageFaultRises (s : State) (st : Stage) : Eased s (s.stageFaultRises st) := by
  have hset := Eased.setStageFault s st true
  unfold State.stageFaultRises
  dsimp only
  split
  · exact hset
  · split
    · exact hset
    · exact hset.trans (.channelTrip _ _ _ _ (by nofun))

/-- Reports taken off the way. -/
theorem Eased.dropReports {s : State} {rs : List Report} (h : ∀ r ∈ rs, r ∈ s.reports) :
    Eased s { s with reports := rs } :=
  .of_work (fun _ => rfl) rfl rfl rfl rfl (.refl _) rfl (fun r hr => .inl (h r hr)) fun _ => .of_channels rfl

/-! ### Record upsets and the verbs that only ease claims -/

theorem Eased.upset_records (s : State) (h : Handle) (copy : CopyName) :
    Eased s (s.upset (.base h) copy) ∧ Eased s (s.upset (.optional h) copy) := by
  refine ⟨.of_records h { s.recordsOf h with base := (s.recordsOf h).base.map (·.upset copy) } ⟨?_, ?_⟩
    ⟨s.link, s.memory.repairs, .refl _, rfl⟩,
    .of_records h { s.recordsOf h with optional := (s.recordsOf h).optional.map (·.upset copy) } ⟨?_, ?_⟩
    ⟨s.link, s.memory.repairs, .refl _, rfl⟩⟩
  · intro hn; simp [hn, ClaimRecords.none]
  · intro p hp
    refine ⟨p.upset copy, by simp [hp], ?_⟩
    cases copy <;> simp [Part.upset]
  · intro hn; simp [hn, ClaimRecords.none]
  · exact fun p hp => ⟨p, hp, .inl rfl, rfl⟩

theorem Eased.clearShortfall (s : State) (h : Handle) : Eased s (s.clearShortfall h) := by
  refine .of_work (fun k => State.claim_congr (by simp) k) (by simp) (by simp) (by simp) (by simp) (.of_eq (by simp))
    (by simp) (fun q hq => .inl (by simpa using hq)) fun _ => ?_
  unfold State.clearShortfall
  split
  · exact .refl s
  · exact .modChannel ⟨rfl, rfl, rfl, id⟩

theorem Eased.lookupRead (s : State) (h : Handle) : Eased s (lookupRead s h).2 := by
  unfold Machine.lookupRead
  split
  · exact .refl s
  · exact .tableRead s h

theorem Eased.lookupAtTable (s : State) (h : Handle) (clear : Bool) : Eased s (lookupAtTable s h clear).state := by
  have e := Eased.lookupRead s h
  unfold Machine.lookupAtTable
  split
  · exact .refl s
  · dsimp only
    split
    · exact e.trans (.clearShortfall _ h)
    · exact e

theorem Eased.demandAtTable (s : State) (h : Handle) (d : DemandFields) : Eased s (demandAtTable s h d).state := by
  unfold Machine.demandAtTable
  split
  case h_2 hs => exact .applyDemand hs d
  all_goals exact .refl s

/-! ### The laws after claims have been eased -/

theorem Eased.claimLaw {s t : State} (he : Eased s t) (h : ClaimLaw s) : ClaimLaw t :=
  fun k => (he.claims k).law (h k)

theorem Eased.channelLaw {s t : State} (he : Eased s t) (h : ChannelLaw s) : ChannelLaw t := by
  rw [channelLaw_iff] at h ⊢
  obtain ⟨hw, hsafe, hoff, hr⟩ := h
  refine ⟨he.wired hw, by rw [he.table, he.safeOff, hsafe], fun hs k => ?_, he.reports hr⟩
  rcases hoff (by rw [← he.safeOff, hs]) k with hk | hk
  · exact .inl (by rw [(he.claims k).unbound hk, hk])
  · exact .inr ((he.claims k).tripped hk)

theorem Eased.unbound_iff {s t : State} (he : Eased s t) (h : Handle) :
    (t.claim h).state = .unbound ↔ (s.claim h).state = .unbound := by
  constructor
  · intro ht
    by_contra hs
    exact (he.claims h).bound hs ht
  · intro hs
    rw [(he.claims h).unbound hs, hs]

end Sys2Proof.Machine

namespace Sys2Proof.Machine

/-! ### The parts of the laws -/

/-- Cells used and free make up the record memory (R53). -/
def CellsLaw (s : State) : Prop := s.memory.free + s.total Claim.cells + s.table.stack.length = 32

/-- The base part of every bound claim, and of no other, stands in memory with the floor its entry holds. -/
def RecordsLaw (s : State) : Prop :=
  (∀ h, (s.claim h).state = .unbound → s.recordsOf h = ClaimRecords.none)
    ∧ ∀ h, (s.claim h).state ≠ .unbound →
        ∃ p, (s.recordsOf h).base = some p ∧ (s.claim h).floorHeld = some p.primary.value.floor
          ∧ (s.claim h).floorHeld = some p.shadow.value.floor

/-- What the part state says of the stack, the queues and the supply (R67, R177). -/
def PartLaw (s : State) : Prop :=
  (s.table.partState = .ready → 1 ≤ s.table.stack.length ∧ s.table.stack.length ≤ 8)
    ∧ (s.table.partState = .unconfigured →
        s.table.stack = [] ∧ s.link.urgent = [] ∧ s.link.normal = [] ∧ s.monitor.timer = .stopped
          ∧ s.table.standing.state = .absent ∧ s.monitor.state = .absent ∧ ∀ h, s.claim h = Claim.unbound)

/-- Both copies of an envelope limit the drive side to no less than `g`. -/
def StackEntry.Covers (e : StackEntry) (g : Nat) : Prop :=
  g ≤ e.part.primary.value.driveLimit ∧ g ≤ e.part.shadow.value.driveLimit

/-- The standing agrees with the monitor, a NORMAL supply and every envelope cover G, and without such a supply no claim
is live. -/
def StandingLaw (s : State) : Prop :=
  s.table.standing.state = s.monitor.state ∧ s.table.g = s.monitor.g
    ∧ (s.table.standing.state = .normal → s.table.g ≤ s.table.standing.availDrive)
    ∧ (s.table.standing.state ≠ .normal → ∀ h, (s.claim h).state.live = false)
    ∧ ∀ e ∈ s.table.stack, e.Covers s.table.g

/-- Budgets that cover G under a NORMAL supply and are 0 without one (R75). -/
def Budgets.Cover (b : Budgets) (t : Table) : Prop :=
  (t.standing.state = .normal → t.g ≤ b.drive) ∧ (t.standing.state ≠ .normal → b.drive = 0 ∧ b.ret = 0)

/-- The result of a pass in flight covers the live claims and, unless void, lies within the budgets in force. -/
def PassFits (s : State) : Prop :=
  ∀ p, s.passes.inFlight = some p →
    (p.grants.map (·.handle)).Nodup ∧ (∀ h, (s.claim h).state.live = true → h ∈ p.grants.map (·.handle))
      ∧ (p.grants.map (·.drive)).sum ≤ p.snapshot.budgets.drive
      ∧ (p.grants.map (·.ret)).sum ≤ p.snapshot.budgets.ret
      ∧ (s.passes.void = false →
          p.snapshot.budgets.drive ≤ s.table.budgets.drive ∧ p.snapshot.budgets.ret ≤ s.table.budgets.ret)

/-- The pass flags are consistent (R84, R87). -/
def PassBook.FlagsLaw (b : PassBook) : Prop :=
  (b.wanted = true → b.inFlight = none) ∧ (b.inFlight = none → b.void = false ∧ b.rerun = false)

/-- What the entries say of themselves, of their channels, of the cells and of their records. -/
structure EntryLaws (s : State) : Prop where
  claims : ClaimLaw s
  channels : ChannelLaw s
  cells : CellsLaw s
  floors : s.table.floorSum = s.total (fun c => c.floorHeld.getD 0)
  records : RecordsLaw s

/-- All the laws but what a change of budgets and of flags establishes anew. -/
structure BaseLaws (s : State) : Prop where
  entries : EntryLaws s
  port : PortLaw s
  covered : s.table.floorSum ≤ s.table.g
  part : PartLaw s
  standing : StandingLaw s
  fits : PassFits s
  grants : BudgetLaw s

/-- All the laws but the consistency of the pass flags, which a completion establishes at its end. -/
structure Sound (s : State) : Prop where
  base : BaseLaws s
  budgets : s.table.budgets.Cover s.table

theorem ledgerLaw_iff (s : State) :
    LedgerLaw s ↔ CellsLaw s ∧ s.table.floorSum = s.total (fun c => c.floorHeld.getD 0) ∧ s.table.floorSum ≤ s.table.g
      ∧ RecordsLaw s ∧ PartLaw s := by
  constructor
  · rintro ⟨h1, h2, h3, h4, h5, h6, h7⟩
    exact ⟨h1, h2, h3, ⟨h4, h5⟩, h6, h7⟩
  · rintro ⟨h1, h2, h3, ⟨h4, h5⟩, h6, h7⟩
    exact ⟨h1, h2, h3, h4, h5, h6, h7⟩

theorem supplyLaw_iff (s : State) : SupplyLaw s ↔ StandingLaw s ∧ s.table.budgets.Cover s.table := by
  constructor
  · rintro ⟨h1, h2, h3, h4, h5⟩
    exact ⟨⟨h1, h2, fun h => (h3 h).1, fun h => (h4 h).2.2, h5⟩, fun h => (h3 h).2, fun h => ⟨(h4 h).1, (h4 h).2.1⟩⟩
  · rintro ⟨⟨h1, h2, h3, h4, h5⟩, h6, h7⟩
    exact ⟨h1, h2, fun h => ⟨h3 h, h6 h⟩, fun h => ⟨(h7 h).1, (h7 h).2, h4 h⟩, h5⟩

theorem passLaw_iff (s : State) : PassLaw s ↔ s.passes.FlagsLaw ∧ PassFits s :=
  ⟨fun ⟨h1, h2, h3⟩ => ⟨⟨h1, h2⟩, h3⟩, fun ⟨⟨h1, h2⟩, h3⟩ => ⟨h1, h2, h3⟩⟩

theorem laws_iff (s : State) : Laws s ↔ Sound s ∧ s.passes.FlagsLaw := by
  constructor
  · rintro ⟨hport, hclaims, hchannels, hledger, hsupply, hpasses, hbudgets⟩
    obtain ⟨hcells, hfloors, hcovered, hrecords, hpart⟩ := (ledgerLaw_iff s).1 hledger
    obtain ⟨hstanding, hcover⟩ := (supplyLaw_iff s).1 hsupply
    obtain ⟨hflags, hfits⟩ := (passLaw_iff s).1 hpasses
    exact ⟨⟨⟨⟨hclaims, hchannels, hcells, hfloors, hrecords⟩, hport, hcovered, hpart, hstanding, hfits, hbudgets⟩, hcover⟩,
      hflags⟩
  · rintro ⟨⟨⟨⟨hclaims, hchannels, hcells, hfloors, hrecords⟩, hport, hcovered, hpart, hstanding, hfits, hbudgets⟩, hcover⟩,
      hflags⟩
    exact ⟨hport, hclaims, hchannels, (ledgerLaw_iff s).2 ⟨hcells, hfloors, hcovered, hrecords, hpart⟩,
      (supplyLaw_iff s).2 ⟨hstanding, hcover⟩, (passLaw_iff s).2 ⟨hflags, hfits⟩, hbudgets⟩

/-! ### What easing keeps -/

theorem Eased.cellsLaw {s t : State} (he : Eased s t) (h : CellsLaw s) : CellsLaw t := by
  have cells : t.total Claim.cells = s.total Claim.cells :=
    State.total_congr fun k => by simp only [Claim.cells, (he.claims k).stageMap]
  rw [CellsLaw, he.free, cells, he.table]
  exact h

theorem Eased.floorSum {s t : State} (he : Eased s t) (h : s.table.floorSum = s.total (fun c => c.floorHeld.getD 0)) :
    t.table.floorSum = t.total (fun c => c.floorHeld.getD 0) := by
  have floors : t.total (fun c => c.floorHeld.getD 0) = s.total (fun c => c.floorHeld.getD 0) :=
    State.total_congr fun k => by simp only [(he.claims k).floorHeld]
  rw [he.table, floors, h]

theorem Eased.recordsLaw {s t : State} (he : Eased s t) (h : RecordsLaw s) : RecordsLaw t := by
  obtain ⟨hnone, hbase⟩ := h
  refine ⟨fun k hk => ?_, fun k hk => ?_⟩
  · exact (he.records k).none (hnone k ((he.unbound_iff k).1 hk))
  · obtain ⟨p, hp, hprimary, hshadow⟩ := hbase k (mt (he.unbound_iff k).2 hk)
    obtain ⟨q, hq, hqp, hqs⟩ := (he.records k).base p hp
    refine ⟨q, hq, ?_, by rw [(he.claims k).floorHeld, hqs, hshadow]⟩
    rw [(he.claims k).floorHeld]
    rcases hqp with e | e <;> rw [e]
    · exact hprimary
    · exact hshadow

theorem Eased.entryLaws {s t : State} (he : Eased s t) (h : EntryLaws s) : EntryLaws t :=
  ⟨he.claimLaw h.claims, he.channelLaw h.channels, he.cellsLaw h.cells, he.floorSum h.floors, he.recordsLaw h.records⟩

theorem Eased.partLaw {s t : State} (he : Eased s t) (h : PartLaw s) : PartLaw t := by
  obtain ⟨hready, hunconf⟩ := h
  refine ⟨by rwa [he.table], fun hp => ?_⟩
  rw [he.table] at hp
  obtain ⟨hstack, hu, hn, htimer, hstanding, hmon, hall⟩ := hunconf hp
  refine ⟨by rw [he.table, hstack], by rw [he.link.urgent, hu], by rw [he.link.normal, hn], by rw [he.monitor, htimer],
    by rw [he.table, hstanding], by rw [he.monitor, hmon], fun k => ?_⟩
  rw [(he.claims k).unbound (by rw [hall]; rfl), hall]

/-- A claim that is live after an easing was live before. -/
theorem Eased.not_live {s t : State} (he : Eased s t) {h : Handle} (hl : (s.claim h).state.live = false) :
    (t.claim h).state.live = false := by
  by_contra hk
  exact Bool.eq_false_iff.1 hl ((he.claims h).live (by simpa using hk))

theorem Eased.standingLaw {s t : State} (he : Eased s t) (h : StandingLaw s) : StandingLaw t := by
  obtain ⟨hstate, hg, hnormal, hnot, hstack⟩ := h
  refine ⟨by rw [he.table, he.monitor, hstate], by rw [he.table, he.monitor, hg], by rwa [he.table], fun hn k => ?_,
    by rwa [he.table]⟩
  rw [he.table] at hn
  exact he.not_live (hnot hn k)

theorem Eased.passFits {s t : State} (he : Eased s t) (h : PassFits s) : PassFits t := by
  intro p hin
  have hflight : t.passes.inFlight = s.passes.inFlight := by rcases he.passes with e | e <;> simp [e]
  have hvoid : t.passes.void = s.passes.void := by rcases he.passes with e | e <;> simp [e]
  obtain ⟨hnodup, hlive, hd, hr, hb⟩ := h p (by rw [← hflight, hin])
  exact ⟨hnodup, fun k hk => hlive k ((he.claims k).live hk), hd, hr, by rwa [hvoid, he.table]⟩

/-- A call for a pass keeps the flags consistent (R87). -/
theorem PassBook.FlagsLaw.call {b : PassBook} (h : b.FlagsLaw) : b.call.FlagsLaw := by
  obtain ⟨hw, hn⟩ := h
  unfold PassBook.call
  cases hb : b.inFlight <;> simp_all [PassBook.FlagsLaw]

theorem Eased.flagsLaw {s t : State} (he : Eased s t) (h : s.passes.FlagsLaw) : t.passes.FlagsLaw := by
  rcases he.passes with e | e <;> rw [e]
  · exact h
  · exact h.call

theorem Eased.budgetLaw {s t : State} (he : Eased s t) (h : BudgetLaw s) : BudgetLaw t := by
  obtain ⟨hd, hr⟩ := h
  have drive : t.total (·.driveGrant) ≤ s.total (·.driveGrant) := State.total_le fun k => (he.claims k).driveGrant
  have ret : t.total (·.returnGrant) ≤ s.total (·.returnGrant) := State.total_le fun k => (he.claims k).returnGrant
  rw [BudgetLaw, he.table]
  exact ⟨drive.trans hd, ret.trans hr⟩

theorem Eased.baseLaws {s t : State} (he : Eased s t) (h : BaseLaws s) : BaseLaws t where
  entries := he.entryLaws h.entries
  port := LinkPort.Law.noticed h.port he.link
  covered := by rw [he.table]; exact h.covered
  part := he.partLaw h.part
  standing := he.standingLaw h.standing
  fits := he.passFits h.fits
  grants := he.budgetLaw h.grants

theorem Eased.sound {s t : State} (he : Eased s t) (h : Sound s) : Sound t :=
  ⟨he.baseLaws h.base, by rw [he.table]; exact h.budgets⟩

/-- All the laws stand when claims are eased. -/
theorem Eased.laws {s t : State} (he : Eased s t) (h : Laws s) : Laws t := by
  rw [laws_iff] at h ⊢
  exact ⟨he.sound h.1, he.flagsLaw h.2⟩

/-! ### Changes that leave the entries but for their grants -/

/-- An entry's grants change and nothing else of it; one that is not live gains none. -/
def Claim.Regranted (c d : Claim) : Prop :=
  ∃ drive ret, d = { c with driveGrant := drive, returnGrant := ret }
    ∧ (c.state.live = false → drive ≤ c.driveGrant ∧ ret ≤ c.returnGrant)

theorem Claim.Regranted.refl (c : Claim) : c.Regranted c := ⟨c.driveGrant, c.returnGrant, rfl, fun _ => ⟨le_rfl, le_rfl⟩⟩

theorem Claim.Regranted.trans {c d e : Claim} (h : c.Regranted d) (h' : d.Regranted e) : c.Regranted e := by
  obtain ⟨a, b, rfl, hab⟩ := h
  obtain ⟨a', b', rfl, hab'⟩ := h'
  exact ⟨a', b', rfl, fun hl => ⟨(hab' hl).1.trans (hab hl).1, (hab' hl).2.trans (hab hl).2⟩⟩

theorem Claim.Regranted.state {c d : Claim} (h : c.Regranted d) : d.state = c.state := by
  obtain ⟨a, b, rfl, -⟩ := h; rfl
theorem Claim.Regranted.stageMap {c d : Claim} (h : c.Regranted d) : d.stageMap = c.stageMap := by
  obtain ⟨a, b, rfl, -⟩ := h; rfl
theorem Claim.Regranted.floorHeld {c d : Claim} (h : c.Regranted d) : d.floorHeld = c.floorHeld := by
  obtain ⟨a, b, rfl, -⟩ := h; rfl
theorem Claim.Regranted.condition {c d : Claim} (h : c.Regranted d) : d.condition = c.condition := by
  obtain ⟨a, b, rfl, -⟩ := h; rfl

/-- The entry's law asks of the grants only that none are held by a claim that is not live. -/
theorem Claim.Regranted.law {c d : Claim} (h : c.Regranted d) (hc : c.Law) : d.Law := by
  obtain ⟨a, b, rfl, hab⟩ := h
  obtain ⟨hunbound, hbound, hbasis, hreason, hrefresh, hbrake, hlost, hgrants⟩ := hc
  have idle (hl : c.state.live = false) : a = 0 ∧ b = 0 := by
    have := hab hl; have := hgrants hl; omega
  refine ⟨fun hu => ?_, hbound, hbasis, hreason, hrefresh, hbrake, hlost, idle⟩
  obtain ⟨rfl, rfl⟩ := idle (by rw [show c.state = .unbound from hu]; rfl)
  rw [hunbound hu]
  rfl

theorem Claim.Regranted.unbound {c d : Claim} (h : c.Regranted d) (hc : c = Claim.unbound) : d = Claim.unbound := by
  obtain ⟨a, b, rfl, hab⟩ := h
  subst hc
  obtain ⟨ha, hb⟩ := hab rfl
  obtain rfl : a = 0 := Nat.le_zero.1 ha
  obtain rfl : b = 0 := Nat.le_zero.1 hb
  rfl

/-- The state `t` has the entries, channels, reports and records of `s`; only grants, notices, the supply, the budgets and the
stack may differ, and cells go between the stack and the free ones. -/
structure Stands (s t : State) : Prop where
  claims : ∀ h, (s.claim h).Regranted (t.claim h)
  channels : t.channels = s.channels
  reports : t.reports = s.reports
  inputs : t.inputs = s.inputs
  safeOff : t.table.safeOff = s.table.safeOff
  floorSum : t.table.floorSum = s.table.floorSum
  records : t.memory.records = s.memory.records
  cells : t.memory.free + t.table.stack.length = s.memory.free + s.table.stack.length

theorem Stands.refl (s : State) : Stands s s := ⟨fun _ => .refl _, rfl, rfl, rfl, rfl, rfl, rfl, rfl⟩

theorem Stands.trans {s t u : State} (h : Stands s t) (h' : Stands t u) : Stands s u where
  claims k := (h.claims k).trans (h'.claims k)
  channels := h'.channels.trans h.channels
  reports := h'.reports.trans h.reports
  inputs := h'.inputs.trans h.inputs
  safeOff := h'.safeOff.trans h.safeOff
  floorSum := h'.floorSum.trans h.floorSum
  records := h'.records.trans h.records
  cells := h'.cells.trans h.cells

theorem Stands.wired {s t : State} (h : Stands s t) (hw : Wired s) : Wired t := by
  refine hw.of_states (fun k => (h.claims k).stageMap) (fun k => by rw [(h.claims k).state])
    (fun k => by rw [(h.claims k).state]) fun st => ?_
  rw [State.channel_congr h.channels]
  exact ⟨rfl, rfl, rfl, hw.gates st⟩

theorem Stands.recordsOf {s t : State} (h : Stands s t) (k : Handle) : t.recordsOf k = s.recordsOf k := by
  rw [State.recordsOf, h.records, State.recordsOf]

theorem Stands.live_iff {s t : State} (h : Stands s t) (k : Handle) :
    (t.claim k).state.live = (s.claim k).state.live := by rw [(h.claims k).state]

theorem Stands.entryLaws {s t : State} (h : Stands s t) (hs : EntryLaws s) : EntryLaws t := by
  obtain ⟨hclaims, hchannels, hcells, hfloors, hnone, hbase⟩ := hs
  obtain ⟨hw, hsafe, hoff, hr⟩ := (channelLaw_iff s).1 hchannels
  have cells : t.total Claim.cells = s.total Claim.cells :=
    State.total_congr fun k => by simp only [Claim.cells, (h.claims k).stageMap]
  have floors : t.total (fun c => c.floorHeld.getD 0) = s.total (fun c => c.floorHeld.getD 0) :=
    State.total_congr fun k => by simp only [(h.claims k).floorHeld]
  refine ⟨fun k => (h.claims k).law (hclaims k), (channelLaw_iff t).2 ⟨h.wired hw, ?_, fun ho k => ?_, fun q hq hk => ?_⟩,
    ?_, by rw [h.floorSum, floors, hfloors], fun k hk => ?_, fun k hk => ?_⟩
  · rw [h.safeOff, h.inputs, hsafe]
  · rw [(h.claims k).state]
    exact hoff (by rw [← h.inputs, ho]) k
  · rw [(h.claims _).condition]
    exact hr q (h.reports ▸ hq) hk
  · have := h.cells
    rw [CellsLaw] at hcells ⊢
    omega
  · rw [h.recordsOf]
    exact hnone k (by rw [← (h.claims k).state, hk])
  · rw [h.recordsOf, (h.claims k).floorHeld]
    exact hbase k (by rwa [← (h.claims k).state])

end Sys2Proof.Machine

namespace Sys2Proof.Machine

/-! ### Reads of the envelope stack (R62, R64) -/

/-- The state `t` is reached from `s` by checked reads of the stack and upsets of it: only the stack, its entries' copies and
conditions, the repair counter and the notices differ. -/
structure EnvelopeReads (s t : State) : Prop where
  claims : t.claims = s.claims
  channels : t.channels = s.channels
  reports : t.reports = s.reports
  inputs : t.inputs = s.inputs
  monitor : t.monitor = s.monitor
  passes : t.passes = s.passes
  link : s.link.Noticed t.link
  free : t.memory.free = s.memory.free
  records : t.memory.records = s.memory.records
  table : t.table = { s.table with stack := t.table.stack }
  depth : t.table.stack.length = s.table.stack.length
  covers : ∀ g, (∀ e ∈ s.table.stack, e.Covers g) → ∀ e ∈ t.table.stack, e.Covers g

theorem EnvelopeReads.refl (s : State) : EnvelopeReads s s :=
  ⟨rfl, rfl, rfl, rfl, rfl, rfl, .refl _, rfl, rfl, rfl, rfl, fun _ h => h⟩

/-- One entry replaced by one whose copies keep covering what both copies covered. -/
theorem EnvelopeReads.setEntry {s t : State} {depth : Nat} {e e' : StackEntry} (he : s.table.stack[depth - 1]? = some e)
    (hcov : ∀ g, e.Covers g → e'.Covers g)
    (ht : ∃ l n, s.link.Noticed l ∧ t = { s.setEntry depth e' with link := l, memory := { s.memory with repairs := n } }) :
    EnvelopeReads s t := by
  obtain ⟨l, n, hl, rfl⟩ := ht
  refine ⟨rfl, rfl, rfl, rfl, rfl, rfl, hl, rfl, rfl, rfl, List.length_set, fun g hall x hx => ?_⟩
  rcases List.mem_or_eq_of_mem_set hx with hx | rfl
  · exact hall x hx
  · exact hcov g (hall e (List.mem_of_getElem? he))

theorem EnvelopeReads.readEnvelope (s : State) (depth : Nat) : EnvelopeReads s (s.readEnvelope depth).2 := by
  rcases s.readEnvelope_cases depth with h | ⟨e, he, -, h | h⟩ <;> rw [h]
  · exact .refl s
  · exact .setEntry (e' := { e with part := e.part.repair }) he (fun g hg => ⟨hg.2, hg.2⟩)
      ⟨_, satInc Config.octetMax s.memory.repairs, s.post_noticed (.repairedEnvelope depth), rfl⟩
  · exact .setEntry (e' := { e with condition := .lost }) he (fun g hg => hg)
      ⟨_, s.memory.repairs, s.post_noticed (.envelopeLost depth), rfl⟩

/-- An upset spoils a copy and no value. -/
theorem EnvelopeReads.upset (s : State) (depth : Nat) (copy : CopyName) :
    EnvelopeReads s (s.upset (.envelope depth) copy) := by
  unfold State.upset
  dsimp only
  split
  · exact .refl s
  · split
    · exact .refl s
    · rename_i e he
      refine .setEntry he (fun g hg => ?_) ⟨s.link, s.memory.repairs, .refl _, rfl⟩
      cases copy <;> exact hg

theorem EnvelopeReads.stands {s t : State} (h : EnvelopeReads s t) : Stands s t where
  claims k := State.claim_congr h.claims k ▸ .refl _
  channels := h.channels
  reports := h.reports
  inputs := h.inputs
  safeOff := by rw [h.table]
  floorSum := by rw [h.table]
  records := h.records
  cells := by rw [h.free, h.depth]

theorem EnvelopeReads.claim {s t : State} (h : EnvelopeReads s t) (k : Handle) : t.claim k = s.claim k :=
  State.claim_congr h.claims k

theorem EnvelopeReads.partLaw {s t : State} (h : EnvelopeReads s t) (hs : PartLaw s) : PartLaw t := by
  obtain ⟨hready, hunconf⟩ := hs
  refine ⟨fun hp => ?_, fun hp => ?_⟩
  · rw [h.depth]
    exact hready (by rw [← hp, h.table])
  · rw [h.table] at hp
    obtain ⟨hstack, hu, hn, htimer, hstanding, hmon, hall⟩ := hunconf hp
    exact ⟨List.eq_nil_of_length_eq_zero (by rw [h.depth, hstack]; rfl), by rw [h.link.urgent, hu],
      by rw [h.link.normal, hn], by rw [h.monitor, htimer], by rw [h.table]; exact hstanding, by rw [h.monitor, hmon],
      fun k => by rw [h.claim, hall]⟩

theorem EnvelopeReads.standingLaw {s t : State} (h : EnvelopeReads s t) (hs : StandingLaw s) : StandingLaw t := by
  obtain ⟨hstate, hg, hnormal, hnot, hstack⟩ := hs
  unfold StandingLaw
  rw [h.monitor]
  refine ⟨by rw [h.table, ← hstate], by rw [h.table, ← hg], by rw [h.table]; exact hnormal, ?_, ?_⟩
  · rw [h.table]
    exact fun hn k => by rw [h.claim]; exact hnot hn k
  · rw [show t.table.g = s.table.g by rw [h.table]]
    exact h.covers _ hstack

theorem EnvelopeReads.baseLaws {s t : State} (h : EnvelopeReads s t) (hs : BaseLaws s) : BaseLaws t where
  entries := h.stands.entryLaws hs.entries
  port := LinkPort.Law.noticed hs.port h.link
  covered := by rw [h.table]; exact hs.covered
  part := h.partLaw hs.part
  standing := h.standingLaw hs.standing
  fits p hp := by
    rw [h.passes] at hp
    obtain ⟨hnodup, hlive, hd, hr, hb⟩ := hs.fits p hp
    refine ⟨hnodup, fun k hk => hlive k (by rwa [h.claim] at hk), hd, hr, ?_⟩
    rw [h.passes, h.table]
    exact hb
  grants := by
    have e (f : Claim → Nat) : t.total f = s.total f := State.total_congr fun k => by rw [h.claim]
    rw [BudgetLaw, e, e, h.table]
    exact hs.grants

theorem EnvelopeReads.cover {s t : State} (h : EnvelopeReads s t) {b : Budgets} (hb : b.Cover s.table) :
    b.Cover t.table := by rw [h.table]; exact hb

theorem EnvelopeReads.sound {s t : State} (h : EnvelopeReads s t) (hs : Sound s) : Sound t :=
  ⟨h.baseLaws hs.base, by rw [show t.table.budgets = s.table.budgets by rw [h.table]]; exact h.cover hs.budgets⟩

/-! ### Budgets formed (R66, R75) -/

/-- The budgets that a read of the top entry gives under a table's standing (R75). -/
def Table.budgetsOf (t : Table) (r : EnvelopeRead) : Budgets :=
  if t.standing.state = .normal then
    ⟨min (r.limits t.g).1 t.standing.availDrive, min (r.limits t.g).2.1 t.standing.availReturn,
      some (r.limits t.g).2.2⟩
  else ⟨0, 0, some (r.limits t.g).2.2⟩

theorem State.formBudgets_of_nil {s : State} (h : s.table.stack = []) : s.formBudgets = (⟨0, 0, none⟩, s) := by
  unfold State.formBudgets
  split
  · rfl
  · simp_all

theorem State.formBudgets_of_ne {s : State} (h : s.table.stack ≠ []) :
    s.formBudgets = (s.table.budgetsOf (s.readEnvelope s.table.stack.length).1,
      (s.readEnvelope s.table.stack.length).2) := by
  have ht := s.readEnvelope_table s.table.stack.length
  unfold State.formBudgets
  split
  · contradiction
  · generalize s.readEnvelope s.table.stack.length = x at ht
    obtain ⟨r, u⟩ := x
    dsimp only at ht ⊢
    rw [show u.table.standing = s.table.standing by rw [ht], show u.table.g = s.table.g by rw [ht]]
    unfold Table.budgetsOf
    split <;> simp_all

theorem EnvelopeReads.formBudgets (s : State) : EnvelopeReads s s.formBudgets.2 := by
  by_cases h : s.table.stack = []
  · rw [State.formBudgets_of_nil h]; exact .refl s
  · rw [State.formBudgets_of_ne h]; exact .readEnvelope s _

/-- What a read of a covering stack gives limits the drive side to no less than G (R66, R70). -/
theorem State.readEnvelope_covers {s : State} (h : ∀ e ∈ s.table.stack, e.Covers s.table.g) (depth : Nat) :
    s.table.g ≤ ((s.readEnvelope depth).1.limits s.table.g).1 := by
  unfold State.readEnvelope
  split
  · exact le_rfl
  · rename_i e he
    obtain ⟨hprimary, hshadow⟩ := h e (List.mem_of_getElem? he)
    split
    · exact le_rfl
    · cases hp : e.part.primary.good with
      | true => rw [Part.outcome_of_primary hp]; exact hprimary
      | false =>
        cases hs : e.part.shadow.good with
        | true => rw [Part.outcome_of_shadow hp hs]; exact hshadow
        | false => rw [Part.outcome_of_neither hp hs]; exact le_rfl

/-- A part whose supply is NORMAL is READY, so its stack is not empty. -/
theorem PartLaw.stack_ne_nil {s : State} (h : PartLaw s) (hn : s.table.standing.state = .normal) : s.table.stack ≠ [] := by
  intro he
  cases hp : s.table.partState with
  | ready => simpa [he] using (h.1 hp).1
  | unconfigured =>
    obtain ⟨-, -, -, -, ha, -⟩ := h.2 hp
    rw [hn] at ha
    cases ha

theorem State.formBudgets_cover {s : State} (hp : PartLaw s) (hs : StandingLaw s) : s.formBudgets.1.Cover s.table := by
  obtain ⟨-, -, hnormal, -, hstack⟩ := hs
  by_cases h : s.table.stack = []
  · rw [State.formBudgets_of_nil h]
    exact ⟨fun hn => absurd h (hp.stack_ne_nil hn), fun _ => ⟨rfl, rfl⟩⟩
  · rw [State.formBudgets_of_ne h]
    refine ⟨fun hn => ?_, fun hn => ?_⟩
    · rw [Table.budgetsOf, if_pos hn]
      exact le_min (State.readEnvelope_covers hstack _) (hnormal hn)
    · rw [Table.budgetsOf, if_neg hn]
      exact ⟨rfl, rfl⟩

/-! ### Budgets put in force (R76, R78 to R80) -/

theorem State.applyBudgets_table (s : State) (b : Budgets) : (s.applyBudgets b).table = { s.table with budgets := b } := by
  unfold State.applyBudgets
  dsimp only
  split <;> split <;> split <;> split <;> simp

theorem State.voidPass_passes (s : State) :
    s.voidPass.passes = if s.passes.inFlight.isSome = true then { s.passes with void := true } else s.passes := by
  unfold State.voidPass
  split <;> rfl

theorem State.applyBudgets_passes (s : State) (b : Budgets) :
    let p := if (b.drive < s.table.budgets.drive ∨ b.ret < s.table.budgets.ret) ∧ s.passes.inFlight.isSome = true then
      { s.passes with void := true } else s.passes
    (s.applyBudgets b).passes = if b = s.table.budgets then p else p.call := by
  unfold State.applyBudgets
  dsimp only
  by_cases hf : b.drive < s.table.budgets.drive ∨ b.ret < s.table.budgets.ret
  · have hb : b ≠ s.table.budgets := by rintro rfl; omega
    simp only [hf, if_true, if_neg hb, true_and, State.callForPass_passes, State.voidPass_passes]
    split <;> split <;> rfl
  · have hd : ¬b.drive < s.table.budgets.drive := fun h => hf (.inl h)
    have hr : ¬b.ret < s.table.budgets.ret := fun h => hf (.inr h)
    rw [if_neg hd, if_neg hr, if_neg hf, if_neg (c := _ ∧ _) (fun h => hf h.1)]
    split <;> rfl

theorem State.applyBudgets_claim (s : State) (b : Budgets) (h : Handle) :
    let c := s.claim h
    let floor := c.floorHeld.getD 0
    (s.applyBudgets b).claim h = { c with
      driveGrant := if b.drive < s.table.budgets.drive ∧ c.state.live = true ∧ floor < c.driveGrant then floor
        else c.driveGrant
      returnGrant := if b.ret < s.table.budgets.ret then 0 else c.returnGrant } := by
  have hdrive (c : Claim) : c.driveFallback = { c with
      driveGrant := if c.state.live = true ∧ c.floorHeld.getD 0 < c.driveGrant then c.floorHeld.getD 0 else c.driveGrant } := by
    unfold Claim.driveFallback
    split <;> rfl
  unfold State.applyBudgets
  simp only [apply_ite (fun u : State => u.claim h), State.claim_callForPass, State.claim_voidPass,
    State.claim_mapClaims, ite_self]
  rw [show ({ s with table := { s.table with budgets := b } } : State).claim h = s.claim h from rfl]
  by_cases hd : b.drive < s.table.budgets.drive <;> by_cases hr : b.ret < s.table.budgets.ret <;>
    simp [hd, hr, hdrive, Claim.returnFallback]

end Sys2Proof.Machine

namespace Sys2Proof.Machine

/-! ### Laws after a recomputation -/

theorem State.applyBudgets_regranted (s : State) (b : Budgets) (h : Handle) :
    (s.claim h).Regranted ((s.applyBudgets b).claim h) := by
  refine ⟨_, _, s.applyBudgets_claim b h, fun hl => ⟨?_, ?_⟩⟩
  · rw [if_neg (by simp [hl])]
  · split
    · exact Nat.zero_le _
    · exact le_rfl

theorem Stands.applyBudgets (s : State) (b : Budgets) : Stands s (s.applyBudgets b) where
  claims := s.applyBudgets_regranted b
  channels := by simp
  reports := by simp
  inputs := by simp
  safeOff := by rw [State.applyBudgets_table]
  floorSum := by rw [State.applyBudgets_table]
  records := by simp
  cells := by rw [State.applyBudgets_table, State.applyBudgets_memory]

/-- A pass in flight stays in flight, and is void where a budget has fallen (R80). -/
theorem State.applyBudgets_inFlight (s : State) (b : Budgets) :
    (s.applyBudgets b).passes.inFlight = s.passes.inFlight := by
  rw [State.applyBudgets_passes]
  split <;> split <;> simp

theorem State.applyBudgets_not_void {s : State} {b : Budgets} {p : Pass} (hp : s.passes.inFlight = some p)
    (hv : (s.applyBudgets b).passes.void = false) :
    s.passes.void = false ∧ s.table.budgets.drive ≤ b.drive ∧ s.table.budgets.ret ≤ b.ret := by
  rw [State.applyBudgets_passes] at hv
  by_cases hf : b.drive < s.table.budgets.drive ∨ b.ret < s.table.budgets.ret
  · simp only [hf, hp, Option.isSome_some, and_self, if_true] at hv
    split at hv <;> simp at hv
  · rw [if_neg (c := _ ∧ _) fun h => hf h.1] at hv
    refine ⟨?_, by omega, by omega⟩
    split at hv
    · exact hv
    · rwa [PassBook.call_void] at hv

/-- With no live claim no grant is held. -/
theorem ClaimLaw.total_grants {s : State} (h : ClaimLaw s) (hl : ∀ k, (s.claim k).state.live = false) :
    s.total (·.driveGrant) = 0 ∧ s.total (·.returnGrant) = 0 := by
  have hd (k : Handle) := ((h k).2.2.2.2.2.2.2 (hl k)).1
  have hr (k : Handle) := ((h k).2.2.2.2.2.2.2 (hl k)).2
  constructor <;> rw [State.total_eq_sum] <;> simp [hd, hr]

/-- The drive fallback brings the grants within the floors (R78), which G and so the budget covers (R74). -/
theorem State.applyBudgets_grants {s : State} {b : Budgets} (hs : BaseLaws s) (hb : b.Cover s.table) :
    BudgetLaw (s.applyBudgets b) := by
  obtain ⟨hdrive, hret⟩ := hs.grants
  have regranted := s.applyBudgets_regranted b
  have hclaims : ClaimLaw (s.applyBudgets b) := fun k => (regranted k).law (hs.entries.claims k)
  rw [BudgetLaw, State.applyBudgets_table]
  by_cases hn : s.table.standing.state = .normal
  · constructor
    · by_cases hf : b.drive < s.table.budgets.drive
      · have hle (k : Handle) : ((s.applyBudgets b).claim k).driveGrant ≤ (s.claim k).floorHeld.getD 0 := by
          rw [State.applyBudgets_claim]
          dsimp only
          split
          · exact le_rfl
          · rename_i hk
            by_cases hl : (s.claim k).state.live = true
            · have : ¬(s.claim k).floorHeld.getD 0 < (s.claim k).driveGrant := fun h => hk ⟨hf, hl, h⟩
              omega
            · obtain ⟨-, -, -, -, -, -, -, hzero⟩ := hs.entries.claims k
              rw [(hzero (by simpa using hl)).1]
              exact Nat.zero_le _
        calc (s.applyBudgets b).total (·.driveGrant)
          _ ≤ s.total (fun c => c.floorHeld.getD 0) := by
              simp only [State.total_eq_sum]
              exact Finset.sum_le_sum fun k _ => hle k
          _ = s.table.floorSum := hs.entries.floors.symm
          _ ≤ s.table.g := hs.covered
          _ ≤ b.drive := hb.1 hn
      · have e : (s.applyBudgets b).total (·.driveGrant) = s.total (·.driveGrant) :=
          State.total_congr fun k => by rw [State.applyBudgets_claim]; exact if_neg fun h => hf h.1
        rw [e]
        exact hdrive.trans (Nat.le_of_not_lt hf)
    · by_cases hf : b.ret < s.table.budgets.ret
      · have e : (s.applyBudgets b).total (·.returnGrant) = 0 := by
          rw [State.total_eq_sum]
          exact Finset.sum_eq_zero fun k _ => by rw [State.applyBudgets_claim]; exact if_pos hf
        rw [e]
        exact Nat.zero_le _
      · have e : (s.applyBudgets b).total (·.returnGrant) = s.total (·.returnGrant) :=
          State.total_congr fun k => by rw [State.applyBudgets_claim]; exact if_neg hf
        rw [e]
        exact hret.trans (Nat.le_of_not_lt hf)
  · obtain ⟨-, -, -, hnot, -⟩ := hs.standing
    obtain ⟨hd, hr⟩ := hclaims.total_grants fun k => by rw [(regranted k).state]; exact hnot hn k
    rw [hd, hr]
    exact ⟨Nat.zero_le _, Nat.zero_le _⟩

theorem State.applyBudgets_sound {s : State} {b : Budgets} (hs : BaseLaws s) (hb : b.Cover s.table) :
    Sound (s.applyBudgets b) := by
  have st := Stands.applyBudgets s b
  have table := s.applyBudgets_table b
  have hmonitor : (s.applyBudgets b).monitor = s.monitor := by simp
  have hlink : (s.applyBudgets b).link = s.link := by simp
  obtain ⟨hready, hunconf⟩ := hs.part
  obtain ⟨hstate, hg, hnormal, hnot, hstack⟩ := hs.standing
  refine ⟨⟨st.entryLaws hs.entries, ?_, ?_, ⟨?_, fun hp => ?_⟩, ?_, fun p hp => ?_, State.applyBudgets_grants hs hb⟩, ?_⟩
  · rw [portLaw_iff, hlink]; exact hs.port
  · rw [table]; exact hs.covered
  · rw [table]; exact hready
  · rw [table] at hp
    obtain ⟨h1, h2, h3, h4, h5, h6, h7⟩ := hunconf hp
    rw [table, hlink, hmonitor]
    exact ⟨h1, h2, h3, h4, h5, h6, fun k => (st.claims k).unbound (h7 k)⟩
  · unfold StandingLaw
    rw [table, hmonitor]
    exact ⟨hstate, hg, hnormal, fun hn k => by rw [st.live_iff]; exact hnot hn k, hstack⟩
  · rw [State.applyBudgets_inFlight] at hp
    obtain ⟨hnodup, hlive, hd, hr, hfit⟩ := hs.fits p hp
    refine ⟨hnodup, fun k hk => hlive k (by rwa [st.live_iff] at hk), hd, hr, fun hv => ?_⟩
    obtain ⟨hv', hdrive, hret⟩ := State.applyBudgets_not_void hp hv
    rw [table]
    exact ⟨(hfit hv').1.trans hdrive, (hfit hv').2.trans hret⟩
  · rw [table]; exact hb

/-- A recomputation establishes what the budgets must cover, and keeps the rest (R75, R76). -/
theorem State.recompute_sound {s : State} (hs : BaseLaws s) : Sound s.recompute := by
  have hreads := EnvelopeReads.formBudgets s
  exact State.applyBudgets_sound (hreads.baseLaws hs) (hreads.cover (State.formBudgets_cover hs.part hs.standing))

/-! ### Flags of the pass book -/

/-- Events call for passes and void the one in flight; they neither start nor end one. -/
structure PassBook.Steady (b b' : PassBook) : Prop where
  inFlight : b'.inFlight = b.inFlight
  wanted : b'.wanted = true → b.wanted = true ∨ b.inFlight = none
  idle : b.inFlight = none → b'.void = b.void ∧ b'.rerun = b.rerun

theorem PassBook.Steady.refl (b : PassBook) : b.Steady b := ⟨rfl, .inl, fun _ => ⟨rfl, rfl⟩⟩

theorem PassBook.Steady.of_eq {b b' : PassBook} (h : b' = b) : b.Steady b' := h ▸ .refl b

theorem PassBook.Steady.trans {b b' b'' : PassBook} (h : b.Steady b') (h' : b'.Steady b'') : b.Steady b'' where
  inFlight := h'.inFlight.trans h.inFlight
  wanted hw := by
    rcases h'.wanted hw with hw | hn
    · exact h.wanted hw
    · exact .inr (h.inFlight ▸ hn)
  idle hn := by
    have h1 := h.idle hn
    have h2 := h'.idle (h.inFlight.trans hn)
    exact ⟨h2.1.trans h1.1, h2.2.trans h1.2⟩

theorem PassBook.steady_call (b : PassBook) : b.Steady b.call := by
  unfold PassBook.call
  cases hb : b.inFlight <;> constructor <;> simp [hb]

theorem PassBook.steady_void (b : PassBook) (v : Bool) (hv : b.inFlight = none → v = b.void) : b.Steady { b with void := v } :=
  ⟨rfl, .inl, fun hn => ⟨hv hn, rfl⟩⟩

theorem PassBook.Steady.flagsLaw {b b' : PassBook} (h : b.Steady b') (hb : b.FlagsLaw) : b'.FlagsLaw := by
  refine ⟨fun hw => ?_, fun hn => ?_⟩
  · rw [h.inFlight]
    exact (h.wanted hw).elim hb.1 id
  · rw [h.inFlight] at hn
    rw [(h.idle hn).1, (h.idle hn).2]
    exact hb.2 hn

theorem State.voidPass_steady (s : State) : s.passes.Steady s.voidPass.passes := by
  rw [State.voidPass_passes]
  split
  · rename_i h
    exact PassBook.steady_void _ _ fun hn => by simp [hn] at h
  · exact .refl _

theorem State.applyBudgets_steady (s : State) (b : Budgets) : s.passes.Steady (s.applyBudgets b).passes := by
  have hvoid : s.passes.Steady (if (b.drive < s.table.budgets.drive ∨ b.ret < s.table.budgets.ret)
      ∧ s.passes.inFlight.isSome = true then { s.passes with void := true } else s.passes) := by
    split
    · rename_i h
      exact PassBook.steady_void _ _ fun hn => by simp [hn] at h
    · exact .refl _
  rw [State.applyBudgets_passes]
  split
  · exact hvoid
  · exact hvoid.trans (PassBook.steady_call _)

theorem State.recompute_steady (s : State) : s.passes.Steady s.recompute.passes := by
  have e := s.formBudgets.2.applyBudgets_steady s.formBudgets.1
  rwa [State.formBudgets_passes] at e

theorem Eased.steady {s t : State} (h : Eased s t) : s.passes.Steady t.passes := by
  rcases h.passes with e | e <;> rw [e]
  · exact .refl _
  · exact s.passes.steady_call

end Sys2Proof.Machine

namespace Sys2Proof.Machine

/-! ### Changes at the supply monitor and of the standing -/

/-- What the entries' laws look at. -/
theorem EntryLaws.congr {s t : State} (hs : EntryLaws s) (claims : t.claims = s.claims) (channels : t.channels = s.channels)
    (reports : t.reports = s.reports) (inputs : t.inputs = s.inputs) (safeOff : t.table.safeOff = s.table.safeOff)
    (floorSum : t.table.floorSum = s.table.floorSum) (records : t.memory.records = s.memory.records)
    (cells : t.memory.free + t.table.stack.length = s.memory.free + s.table.stack.length) : EntryLaws t :=
  Stands.entryLaws ⟨fun k => State.claim_congr claims k ▸ .refl _, channels, reports, inputs, safeOff, floorSum, records,
    cells⟩ hs

/-- The monitor changes in nothing that the laws speak of but its timer, which runs only in a READY part. -/
theorem Sound.of_monitor {s : State} (hs : Sound s) {m : Monitor} (hstate : m.state = s.monitor.state)
    (hg : m.g = s.monitor.g) (htimer : s.table.partState = .unconfigured → m.timer = .stopped) :
    Sound { s with monitor := m } := by
  obtain ⟨⟨hentries, hport, hcovered, ⟨hready, hunconf⟩, ⟨h1, h2, h3, h4, h5⟩, hfits, hgrants⟩, hbudgets⟩ := hs
  refine ⟨⟨?_, hport, hcovered, ⟨hready, fun hp => ?_⟩, ⟨?_, ?_, h3, h4, h5⟩, hfits, hgrants⟩, hbudgets⟩
  · exact hentries.congr rfl rfl rfl rfl rfl rfl rfl rfl
  · obtain ⟨a, b, c, -, e, f, g⟩ := hunconf hp
    exact ⟨a, b, c, htimer hp, e, hstate.trans f, g⟩
  · exact h1.trans hstate.symm
  · exact h2.trans hg.symm

/-- The supply moves in a READY part: monitor, standing and notices change together. -/
theorem BaseLaws.of_supply {s : State} (hs : BaseLaws s) {l : LinkPort} {m : Monitor} {st : Standing}
    (hready : s.table.partState = .ready) (hlink : s.link.Noticed l) (hstate : st.state = m.state)
    (hg : m.g = s.monitor.g) (hnormal : st.state = .normal → s.table.g ≤ st.availDrive)
    (hlive : st.state ≠ .normal → ∀ h, (s.claim h).state.live = false) :
    BaseLaws { s with link := l, monitor := m, table := { s.table with standing := st } } := by
  obtain ⟨hentries, hport, hcovered, ⟨hdepth, -⟩, ⟨-, h2, -, -, h5⟩, hfits, hgrants⟩ := hs
  refine ⟨?_, LinkPort.Law.noticed hport hlink, hcovered, ⟨hdepth, fun hp => ?_⟩, ⟨hstate, h2.trans hg.symm, hnormal,
    hlive, h5⟩, hfits, hgrants⟩
  · exact hentries.congr rfl rfl rfl rfl rfl rfl rfl rfl
  · rw [show s.table.partState = .unconfigured from hp] at hready
    cases hready

/-- Standings that are not NORMAL hold the same budgets at 0. -/
theorem Budgets.Cover.of_not_normal {b : Budgets} {t u : Table} (h : b.Cover t) (ht : t.standing.state ≠ .normal)
    (hu : u.standing.state ≠ .normal) : b.Cover u :=
  ⟨fun hn => absurd hn hu, fun _ => h.2 ht⟩

/-! ### A supply fault (R44, R82) -/

/-- The table after the fault's post, before the live claims brake: the standing FAULT, the budgets formed, every grant 0, the
pass in flight void and a pass called for. -/
def State.supplyFaulted (s : State) (drive ret : Nat) : State :=
  let u := s.setStanding ⟨.fault, drive, ret⟩
  ((({ u.formBudgets.2 with
    table := { u.formBudgets.2.table with budgets := u.formBudgets.1 } } : State).voidPass).mapClaims
      Claim.zeroGrants).callForPass

theorem State.supplyFault_eq (s : State) (drive ret : Nat) :
    s.supplyFault drive ret = ((s.supplyFaulted drive ret).brakeAll Handle.all).2 := rfl

theorem EnvelopeReads.supplyFaulted (s : State) (drive ret : Nat) :
    EnvelopeReads (s.setStanding ⟨.fault, drive, ret⟩) (s.setStanding ⟨.fault, drive, ret⟩).formBudgets.2 :=
  .formBudgets _

theorem State.supplyFaulted_table (s : State) (drive ret : Nat) :
    let u := (s.setStanding ⟨.fault, drive, ret⟩).formBudgets
    (s.supplyFaulted drive ret).table = { u.2.table with budgets := u.1 } := by simp [State.supplyFaulted]

@[simp] theorem State.supplyFaulted_claim (s : State) (drive ret : Nat) (h : Handle) :
    (s.supplyFaulted drive ret).claim h = (s.claim h).zeroGrants := by
  simp only [State.supplyFaulted, State.claim_callForPass, State.claim_mapClaims, State.claim_voidPass]
  exact congrArg Claim.zeroGrants (State.claim_formBudgets _ h)

/-- A fault's post voids the pass in flight and calls for one (R82). -/
theorem State.supplyFaulted_passes (s : State) (drive ret : Nat) :
    (s.supplyFaulted drive ret).passes = if s.passes.inFlight.isSome = true then
      { s.passes with void := true, rerun := true } else { s.passes with wanted := true } := by
  simp only [State.supplyFaulted, State.callForPass_passes, State.mapClaims_passes, State.voidPass_passes,
    State.formBudgets_passes, State.setStanding_passes, PassBook.call]
  split <;> simp_all

theorem State.supplyFaulted_noticed (s : State) (drive ret : Nat) :
    s.link.Noticed (s.supplyFaulted drive ret).link := by
  simpa [State.supplyFaulted] using (s.setStanding ⟨.fault, drive, ret⟩).formBudgets_noticed

theorem Stands.supplyFaulted (s : State) (drive ret : Nat) : Stands s (s.supplyFaulted drive ret) := by
  have r := (EnvelopeReads.supplyFaulted s drive ret).stands
  have htable := s.supplyFaulted_table drive ret
  refine ⟨fun h => ⟨0, 0, s.supplyFaulted_claim drive ret h, fun _ => ⟨Nat.zero_le _, Nat.zero_le _⟩⟩, ?_, ?_, ?_, ?_, ?_, ?_, ?_⟩
  · simp [State.supplyFaulted]
  · simp [State.supplyFaulted]
  · simp [State.supplyFaulted]
  · rw [htable]; exact r.safeOff
  · rw [htable]; exact r.floorSum
  · simpa [State.supplyFaulted] using r.records
  · rw [htable, show (s.supplyFaulted drive ret).memory = (s.setStanding ⟨.fault, drive, ret⟩).formBudgets.2.memory by
      simp [State.supplyFaulted]]
    exact r.cells

/-- A claim that has entered BRAKING, or has tripped on the way, is not live. -/
theorem State.enterBraking_state {s : State} {h : Handle} (hl : (s.claim h).state.live = true) :
    ((s.enterBraking h).claim h).state = .braking ∨ ((s.enterBraking h).claim h).state = .tripped := by
  rcases hr : s.readBase h with ⟨_ | r, u⟩
  · have hb := (ClaimState.bound_iff _).1 (ClaimState.bound_of_live hl)
    obtain rfl := State.readBase_none hr
    rw [State.enterBraking, State.tableRead_of_none hr, State.recordLost_of_bound hb]
    by_cases ht : (u.claim h).state = .tripped
    · simp [ht, ClaimState.live] at hl
    · rw [State.enterTripped_claim_self _ (by simpa using hb) (by simpa using ht)]
      exact .inr rfl
  · rw [State.enterBraking_of_some hr]
    exact .inl (by simp [Claim.braking])

theorem State.brakeAll_not_live (hs : List Handle) (s : State) :
    ∀ h ∈ hs, ((s.brakeAll hs).2.claim h).state.live = false := by
  induction hs generalizing s with
  | nil => simp
  | cons k hs ih =>
    intro h hmem
    rw [State.brakeAll_cons]
    split
    · rename_i hl
      rcases List.mem_cons.1 hmem with rfl | hmem
      · refine (Eased.brakeAll _ hs).not_live ?_
        rcases State.enterBraking_state hl with e | e <;> rw [e] <;> rfl
      · exact ih _ h hmem
    · rename_i hl
      rcases List.mem_cons.1 hmem with rfl | hmem
      · exact (Eased.brakeAll _ hs).not_live (by simpa using hl)
      · exact ih _ h hmem

theorem Handle.mem_all (h : Handle) : h ∈ Handle.all := by rw [Handle.all_eq]; exact List.mem_finRange h

theorem State.supplyFault_not_live (s : State) (drive ret : Nat) (h : Handle) :
    ((s.supplyFault drive ret).claim h).state.live = false :=
  State.brakeAll_not_live _ _ h (Handle.mem_all h)

/-- The budgets a fault forms are 0 on both sides (R75). -/
theorem State.formBudgets_not_normal {s : State} (h : s.table.standing.state ≠ .normal) :
    s.formBudgets.1.drive = 0 ∧ s.formBudgets.1.ret = 0 := by
  by_cases hn : s.table.stack = []
  · rw [State.formBudgets_of_nil hn]; exact ⟨rfl, rfl⟩
  · rw [State.formBudgets_of_ne hn, Table.budgetsOf, if_neg h]; exact ⟨rfl, rfl⟩

/-- A supply fault: the monitor says FAULT already and the part is READY. -/
theorem State.supplyFault_sound {s : State} (hentries : EntryLaws s) (hport : PortLaw s)
    (hcovered : s.table.floorSum ≤ s.table.g) (hready : s.table.partState = .ready)
    (hdepth : 1 ≤ s.table.stack.length ∧ s.table.stack.length ≤ 8) (hm : s.monitor.state = .fault)
    (hg : s.table.g = s.monitor.g) (hstack : ∀ e ∈ s.table.stack, e.Covers s.table.g)
    (hfits : PassFits s) (drive ret : Nat) : Sound (s.supplyFault drive ret) := by
  have hst := Stands.supplyFaulted s drive ret
  have hr := EnvelopeReads.supplyFaulted s drive ret
  have table := s.supplyFaulted_table drive ret
  have monitor : (s.supplyFaulted drive ret).monitor = s.monitor := by simp [State.supplyFaulted]
  have budgets := State.formBudgets_not_normal (s := s.setStanding ⟨.fault, drive, ret⟩) (by simp [State.setStanding])
  have heased := Eased.brakeAll (s.supplyFaulted drive ret) Handle.all
  rw [← State.supplyFault_eq] at heased
  have hzero (f : Claim → Nat) (hf : ∀ c : Claim, f c.zeroGrants = 0) : (s.supplyFaulted drive ret).total f = 0 := by
    rw [State.total_eq_sum]
    exact Finset.sum_eq_zero fun k _ => by rw [State.supplyFaulted_claim, hf]
  have unready : s.table.partState ≠ .unconfigured := by simp [hready]
  have hpart : PartLaw (s.supplyFaulted drive ret) := by
    refine ⟨fun _ => ?_, fun hp => ?_⟩
    · rw [table]
      simpa [hr.depth, State.setStanding] using hdepth
    · rw [table, hr.table] at hp
      exact absurd hp unready
  have hfits' : PassFits (s.supplyFaulted drive ret) := by
    intro p hp
    rw [State.supplyFaulted_passes] at hp ⊢
    by_cases hin : s.passes.inFlight.isSome = true
    · rw [if_pos hin] at hp ⊢
      obtain ⟨hnodup, hlive, hd, hrt, -⟩ := hfits p hp
      exact ⟨hnodup, fun k hk => hlive k (by rwa [hst.live_iff] at hk), hd, hrt, fun hv => by simp at hv⟩
    · rw [if_neg hin] at hp
      simp [show s.passes.inFlight = some p from hp] at hin
  have hstanding : (s.supplyFault drive ret).table.standing = ⟨.fault, drive, ret⟩ := by
    rw [heased.table, table, hr.table]; rfl
  refine ⟨⟨heased.entryLaws (hst.entryLaws hentries), ?_, ?_, heased.partLaw hpart, ⟨?_, ?_, ?_, fun _ => ?_, ?_⟩,
    heased.passFits hfits', heased.budgetLaw ?_⟩, ?_⟩
  · exact LinkPort.Law.noticed (LinkPort.Law.noticed hport (s.supplyFaulted_noticed drive ret)) heased.link
  · rw [heased.table, table, hr.table]; exact hcovered
  · rw [hstanding, heased.monitor, monitor, hm]
  · rw [heased.table, heased.monitor, monitor, table, hr.table]; exact hg
  · rw [hstanding]; nofun
  · exact s.supplyFault_not_live drive ret
  · rw [heased.table, table]
    rw [show (s.setStanding ⟨.fault, drive, ret⟩).formBudgets.2.table.g = s.table.g by rw [hr.table]; rfl]
    exact hr.covers _ hstack
  · rw [BudgetLaw, hzero _ fun _ => rfl, hzero _ fun _ => rfl]
    exact ⟨Nat.zero_le _, Nat.zero_le _⟩
  · rw [show (s.supplyFault drive ret).table.budgets = (s.setStanding ⟨.fault, drive, ret⟩).formBudgets.1 by
      rw [heased.table, table]]
    refine ⟨fun hn => ?_, fun _ => budgets⟩
    rw [hstanding] at hn
    cases hn

theorem State.supplyFault_steady (s : State) (drive ret : Nat) : s.passes.Steady (s.supplyFault drive ret).passes := by
  have heased := (Eased.brakeAll (s.supplyFaulted drive ret) Handle.all).steady
  rw [← State.supplyFault_eq] at heased
  refine PassBook.Steady.trans ?_ heased
  rw [State.supplyFaulted_passes]
  cases hin : s.passes.inFlight <;> constructor <;> simp [hin]

/-! ### Verdicts of the supply monitor (R148 to R151) -/

theorem State.faultVerdict_sound {s : State} (hs : Sound s) (hready : s.table.partState = .ready)
    (r : SupplyReason) (a b : Nat) : Sound (s.faultVerdict r a b) := by
  obtain ⟨⟨hentries, hport, hcovered, hpart, hstanding, hfits, hgrants⟩, hbudgets⟩ := hs
  have fault : Sound ((s.supplyChange .fault (some r)).supplyFault a b) := by
    obtain ⟨-, hg, -, -, hstack⟩ := hstanding
    exact State.supplyFault_sound (s := s.supplyChange .fault (some r)) (hentries.congr rfl rfl rfl rfl rfl rfl rfl rfl) (LinkPort.Law.noticed hport (s.supplyChange_noticed .fault (some r)))
      hcovered hready (hpart.1 hready) rfl hg hstack hfits a b
  have hs : Sound s := ⟨⟨hentries, hport, hcovered, hpart, hstanding, hfits, hgrants⟩, hbudgets⟩
  unfold State.faultVerdict
  split
  · exact fault
  · exact fault
  · rename_i hm
    split
    · exact hs
    · have hn : s.table.standing.state ≠ .normal := by rw [hstanding.1, hm]; nofun
      refine ⟨?_, hbudgets.of_not_normal hn nofun⟩
      exact hs.base.of_supply (st := ⟨.fault, a, b⟩) hready (s.supplyChange_noticed .fault (some r)) rfl rfl nofun
        fun _ => hstanding.2.2.2.1 hn

theorem State.faultVerdict_steady (s : State) (r : SupplyReason) (a b : Nat) :
    s.passes.Steady (s.faultVerdict r a b).passes := by
  unfold State.faultVerdict
  split
  · exact (s.supplyChange .fault (some r)).supplyFault_steady a b
  · exact (s.supplyChange .fault (some r)).supplyFault_steady a b
  · split
    · exact .refl _
    · exact .refl _

theorem State.normalVerdict_sound {s : State} (hs : Sound s) (hready : s.table.partState = .ready) {f : SupplyFields}
    (hf : s.monitor.g ≤ f.drive) (changed : Bool) : Sound (s.normalVerdict f changed) := by
  obtain ⟨hstate, hg, -⟩ := hs.base.standing
  have avail : s.table.g ≤ f.drive := hg ▸ hf
  have recovers : Sound ((s.supplyChange .normal (some .recovered)).supplyNormal f.drive f.ret) :=
    State.recompute_sound (hs.base.of_supply (st := ⟨.normal, f.drive, f.ret⟩) hready
      (s.supplyChange_noticed .normal (some .recovered)) rfl rfl (fun _ => avail) (fun h => absurd rfl h))
  unfold State.normalVerdict
  split
  · exact recovers
  · exact recovers
  · rename_i hm
    split
    · exact State.recompute_sound (hs.base.of_supply (l := s.link) (m := s.monitor) (st := ⟨.normal, f.drive, f.ret⟩)
        hready (.refl _) hm.symm rfl (fun _ => avail) (fun h => absurd rfl h))
    · exact hs

theorem State.normalVerdict_steady (s : State) (f : SupplyFields) (changed : Bool) :
    s.passes.Steady (s.normalVerdict f changed).passes := by
  have normal (u : State) (hu : u.passes = s.passes) : s.passes.Steady (u.supplyNormal f.drive f.ret).passes :=
    hu ▸ State.recompute_steady (u.setStanding ⟨.normal, f.drive, f.ret⟩)
  unfold State.normalVerdict
  split
  · exact normal _ rfl
  · exact normal _ rfl
  · split
    · exact normal s rfl
    · exact .refl _

theorem State.goodSupplyFrame_sound {s : State} (hs : Sound s) (f : SupplyFields) : Sound (s.goodSupplyFrame f) := by
  unfold State.goodSupplyFrame
  split
  · rename_i hp
    obtain ⟨-, -, -, ht, -⟩ := hs.base.part.2 hp
    exact hs.of_monitor rfl rfl fun _ => ht
  · rename_i hp
    have recorded : Sound ((s.restartTimeout).recordCapability f) := hs.of_monitor rfl rfl fun h => by simp [hp] at h
    dsimp only
    split
    · exact State.faultVerdict_sound recorded hp _ _ _
    · split
      · exact State.faultVerdict_sound recorded hp _ _ _
      · exact State.normalVerdict_sound recorded hp (Nat.le_of_not_lt ‹_›) _

theorem State.goodSupplyFrame_steady (s : State) (f : SupplyFields) : s.passes.Steady (s.goodSupplyFrame f).passes := by
  let u := s.restartTimeout.recordCapability f
  unfold State.goodSupplyFrame
  split
  · exact .of_eq rfl
  · dsimp only
    split
    · exact u.faultVerdict_steady _ _ _
    · split
      · exact u.faultVerdict_steady _ _ _
      · exact u.normalVerdict_steady _ _

/-- The timeout timer runs only in a READY part (R150). -/
theorem PartLaw.ready_of_timer {s : State} (h : PartLaw s) (ht : s.monitor.timer ≠ .stopped) :
    s.table.partState = .ready := by
  cases hp : s.table.partState with
  | ready => rfl
  | unconfigured => exact absurd (h.2 hp).2.2.2.1 ht

theorem State.supplyTimesOut_sound {s : State} (hs : Sound s) (ht : s.monitor.timer ≠ .stopped) :
    Sound s.supplyTimesOut := by
  have stopped : Sound { s with monitor := { s.monitor with timer := .stopped } } := hs.of_monitor rfl rfl fun _ => rfl
  exact State.faultVerdict_sound stopped (hs.base.part.ready_of_timer ht) _ _ _

theorem State.supplyTimesOut_steady (s : State) : s.passes.Steady s.supplyTimesOut.passes :=
  State.faultVerdict_steady { s with monitor := { s.monitor with timer := .stopped } } _ _ _

end Sys2Proof.Machine

namespace Sys2Proof.Machine

/-! ### Changes that give or take stages, cells and floors -/

/-- In a READY part, entries that agree with their channels and records keep the laws when the floors stay within G, no grant
grows, and a claim becomes live only between passes and under a NORMAL supply. -/
theorem Sound.of_entries {s t : State} (hs : Sound s) (he : EntryLaws t) (hlink : s.link.Noticed t.link)
    (htable : t.table = { s.table with floorSum := t.table.floorSum }) (hcov : t.table.floorSum ≤ s.table.g)
    (hmon : t.monitor = s.monitor) (hready : s.table.partState = .ready)
    (hflight : t.passes.inFlight = s.passes.inFlight) (hvoid : t.passes.void = s.passes.void)
    (hlive : ∀ k, (t.claim k).state.live = true → (s.claim k).state.live = true
      ∨ (s.passes.inFlight = none ∧ s.table.standing.state = .normal))
    (hgrants : ∀ k, (t.claim k).driveGrant ≤ (s.claim k).driveGrant ∧ (t.claim k).returnGrant ≤ (s.claim k).returnGrant) :
    Sound t := by
  obtain ⟨⟨-, hport, -, ⟨hdepth, -⟩, ⟨h1, h2, h3, h4, h5⟩, hfits, hd, hr⟩, hbudgets⟩ := hs
  refine ⟨⟨he, LinkPort.Law.noticed hport hlink, ?_, ⟨fun _ => ?_, fun hp => ?_⟩, ⟨?_, ?_, ?_, fun hn k => ?_, ?_⟩,
    fun p hp => ?_, ?_⟩, ?_⟩
  · rw [htable]; exact hcov
  · rw [htable]; exact hdepth hready
  · rw [htable] at hp
    rw [show s.table.partState = .unconfigured from hp] at hready
    cases hready
  · rw [htable, hmon]; exact h1
  · rw [htable, hmon]; exact h2
  · rw [htable]; exact h3
  · rw [htable] at hn
    by_contra hk
    rcases hlive k (by simpa using hk) with hl | ⟨-, hn'⟩
    · simp [h4 hn k] at hl
    · exact hn hn'
  · rw [htable]; exact h5
  · rw [hflight] at hp
    obtain ⟨hnodup, hall, hd, hr, hfit⟩ := hfits p hp
    refine ⟨hnodup, fun k hk => ?_, hd, hr, by rw [hvoid, htable]; exact hfit⟩
    rcases hlive k hk with hl | ⟨hn, -⟩
    · exact hall k hl
    · simp [hn] at hp
  · have drive : t.total (·.driveGrant) ≤ s.total (·.driveGrant) := State.total_le fun k => (hgrants k).1
    have ret : t.total (·.returnGrant) ≤ s.total (·.returnGrant) := State.total_le fun k => (hgrants k).2
    rw [BudgetLaw, htable]
    exact ⟨drive.trans hd, ret.trans hr⟩
  · rw [htable]; exact hbudgets

/-- A bound claim's entry is present in every part (R8). -/
theorem Claim.Law.present {c : Claim} (h : c.Law) (hb : c.state ≠ .unbound) :
    ∃ m floor w, c.stageMap = some m ∧ c.floorHeld = some floor ∧ c.refreshWindow = some w := by
  obtain ⟨-, hbound, -⟩ := h
  obtain ⟨hm, -, hf, hw⟩ := hbound hb
  obtain ⟨m, hm⟩ := Option.isSome_iff_exists.1 hm
  obtain ⟨f, hf⟩ := Option.isSome_iff_exists.1 hf
  obtain ⟨w, hw⟩ := Option.isSome_iff_exists.1 hw
  exact ⟨m, f, w, hm, hf, hw⟩

theorem Claim.unbound_law : Claim.unbound.Law := by
  refine ⟨fun _ => rfl, fun h => absurd rfl h, ?_, ?_, ?_, ?_, ?_, fun _ => ⟨rfl, rfl⟩⟩ <;>
    simp [Claim.unbound]

/-- A part with a bound claim is READY. -/
theorem PartLaw.ready_of_bound {s : State} (h : PartLaw s) {k : Handle} (hk : (s.claim k).state ≠ .unbound) :
    s.table.partState = .ready := by
  cases hp : s.table.partState with
  | ready => rfl
  | unconfigured =>
    obtain ⟨-, -, -, -, -, -, hall⟩ := h.2 hp
    exact absurd (by rw [hall]; rfl) hk

/-! ### A claim freed (R28) -/

theorem State.freeClaim_wired {s : State} (hw : Wired s) {h : Handle} {m : StageMap} {floor : Nat}
    (hm : (s.claim h).stageMap = some m) (hf : (s.claim h).floorHeld = some floor) : Wired (s.freeClaim h) := by
  obtain ⟨hself, hother, -, -, -, -, -, hin, hout, -⟩ := freedClaimGivesBackCellsFloorAndStages s h m floor hm hf
  have owner (st : Stage) : ((s.freeClaim h).channel st).owner = if st ∈ m.stages then none else (s.channel st).owner := by
    split
    · rw [hin st ‹_›]
    · rw [hout st ‹_›]
  have not_mem {st : Stage} {o : Owner} (ho : (s.channel st).owner = some o) (hst : st ∉ m.stages) : o.handle ≠ h := by
    rintro rfl
    exact hst ((hw.mem_stages hm st).2 ⟨o.role, ho⟩)
  have follows (st : Stage) : ((s.freeClaim h).channel st).mode = ((s.freeClaim h).ownerState st).mode
      ∧ ((s.freeClaim h).channel st).brakeEngaged = !((s.freeClaim h).ownerState st).live
      ∧ ((s.freeClaim h).channel st).GatesLaw := by
    by_cases hst : st ∈ m.stages
    · rw [State.ownerState_of_none (by rw [owner, if_pos hst]), hin st hst]
      exact ⟨rfl, rfl, fun _ => rfl⟩
    · have same : (s.freeClaim h).ownerState st = s.ownerState st := by
        cases ho : (s.channel st).owner with
        | none => rw [State.ownerState_of_none ho, State.ownerState_of_none (by rw [owner, if_neg hst, ho])]
        | some o =>
          rw [State.ownerState_of_owner ho, State.ownerState_of_owner (by rw [owner, if_neg hst, ho]),
            hother _ (not_mem ho hst)]
      rw [same, hout st hst]
      exact ⟨hw.mode st, hw.brake st, hw.gates st⟩
  refine ⟨fun k st role => ?_, fun st => (follows st).1, fun st => (follows st).2.1, fun st => (follows st).2.2⟩
  rw [owner]
  by_cases hk : k = h
  · subst hk
    rw [hself]
    constructor
    · rintro ⟨_, hn, -⟩
      cases hn
    · intro ho
      split at ho
      · cases ho
      · exact absurd rfl (not_mem ho ‹_›)
  · rw [hother k hk, hw.owned]
    constructor
    · intro ho
      rw [if_neg, ho]
      intro hst
      obtain ⟨role', ho'⟩ := (hw.mem_stages hm st).1 hst
      rw [ho] at ho'
      cases ho'
      exact hk rfl
    · intro ho
      split at ho
      · cases ho
      · exact ho

theorem State.freeClaim_entryLaws {s : State} (hs : EntryLaws s) {h : Handle} (hb : (s.claim h).state ≠ .unbound) :
    EntryLaws (s.freeClaim h) := by
  obtain ⟨hclaims, hchannels, hcells, hfloors, hnone, hbase⟩ := hs
  obtain ⟨hw, hsafe, hoff, hr⟩ := (channelLaw_iff s).1 hchannels
  obtain ⟨m, floor, -, hm, hf, -⟩ := (hclaims h).present hb
  have hwired := State.freeClaim_wired hw hm hf
  obtain ⟨hself, hother, hrec, hrecs, hfree, -, htable, -, -, -, -, hreports, -, hinputs, -⟩ :=
    freedClaimGivesBackCellsFloorAndStages s h m floor hm hf
  have each {P : Handle → Claim → Prop} (hP : P h Claim.unbound) (hrest : ∀ k, k ≠ h → P k (s.claim k)) (k : Handle) :
      P k ((s.freeClaim h).claim k) := by
    by_cases hk : k = h
    · subst hk; rwa [hself]
    · rw [hother k hk]; exact hrest k hk
  refine ⟨each (P := fun _ c => c.Law) Claim.unbound_law fun k _ => hclaims k,
    (channelLaw_iff _).2 ⟨hwired, ?_, ?_, fun q hq hk => ?_⟩, ?_, ?_, fun k => ?_, fun k => ?_⟩
  · rw [htable, hinputs]; exact hsafe
  · intro ho
    exact each (P := fun _ c => c.state = .unbound ∨ c.state = .tripped) (.inl rfl) fun k _ => hoff (by rwa [hinputs] at ho) k
  · rw [hreports, List.mem_filter] at hq
    obtain ⟨hq, hqh⟩ := hq
    rw [hother _ (by simpa using hqh)]
    exact hr q hq hk
  · have update := State.total_update (s := s) (t := s.freeClaim h) (f := Claim.cells) h
      fun k hk => by rw [hother k hk]
    have own : (s.claim h).cells = if m.cls = .axis then 2 else 3 := by
      simp only [Claim.cells, hm, Option.map_some, Option.getD_some, StageMap.cells]
      cases m.cls <;> rfl
    rw [hself, own, show Claim.unbound.cells = 0 from rfl] at update
    rw [CellsLaw] at hcells ⊢
    rw [hfree, htable]
    dsimp only
    omega
  · have update := State.total_update (s := s) (t := s.freeClaim h) (f := fun c => c.floorHeld.getD 0) h
      fun k hk => by rw [hother k hk]
    rw [hself, hf] at update
    rw [htable]
    simp only [Option.getD_some, show Claim.unbound.floorHeld.getD 0 = 0 from rfl] at update
    dsimp only
    omega
  · by_cases hk : k = h
    · subst hk; exact fun _ => hrec
    · rw [hother k hk, hrecs k hk]; exact hnone k
  · by_cases hk : k = h
    · subst hk; rw [hself]; exact fun h => absurd rfl h
    · rw [hother k hk, hrecs k hk]; exact hbase k

theorem State.freeClaim_sound {s : State} (hs : Sound s) {h : Handle} (hb : (s.claim h).state ≠ .unbound) :
    Sound (s.freeClaim h) := by
  obtain ⟨m, floor, -, hm, hf, -⟩ := (hs.base.entries.claims h).present hb
  obtain ⟨hself, hother, -, -, -, -, htable, -, -, hpasses, -, -, hmon, -⟩ :=
    freedClaimGivesBackCellsFloorAndStages s h m floor hm hf
  have each {P : Handle → Claim → Prop} (hP : P h Claim.unbound) (hrest : ∀ k, P k (s.claim k)) (k : Handle) :
      P k ((s.freeClaim h).claim k) := by
    by_cases hk : k = h
    · subst hk; rwa [hself]
    · rw [hother k hk]; exact hrest k
  refine hs.of_entries (State.freeClaim_entryLaws hs.base.entries hb) (s.freeClaim_noticed h) (by rw [htable]) ?_ hmon
    (hs.base.part.ready_of_bound hb) (by rw [hpasses, PassBook.call_inFlight]) (by rw [hpasses, PassBook.call_void])
    (each (P := fun k c => c.state.live = true → (s.claim k).state.live = true ∨ _) nofun fun _ h => .inl h)
    (each (P := fun k c => c.driveGrant ≤ (s.claim k).driveGrant ∧ c.returnGrant ≤ (s.claim k).returnGrant)
      ⟨Nat.zero_le _, Nat.zero_le _⟩ fun _ => ⟨le_rfl, le_rfl⟩)
  rw [htable]
  exact (Nat.sub_le _ _).trans hs.base.covered

theorem State.freeClaim_steady (s : State) (h : Handle) : s.passes.Steady (s.freeClaim h).passes := by
  have e : (s.freeClaim h).passes = s.passes.call := by simp [State.freeClaim]
  rw [e]
  exact s.passes.steady_call

end Sys2Proof.Machine

namespace Sys2Proof.Machine

/-! ### Stages in use -/

/-- A stage has no owner when no stage map names it (R9). -/
theorem State.ownerOf_eq_none_iff (s : State) (st : Stage) :
    s.ownerOf st = none ↔ ∀ k m, (s.claim k).stageMap = some m → st ∉ m.stages := by
  unfold State.ownerOf
  rw [List.find?_eq_none]
  constructor
  · intro h k m hm hst
    have := h k (Handle.mem_all k)
    rw [hm] at this
    simp only [StageMap.stages, List.mem_cons, Option.mem_toList] at hst
    rcases hst with rfl | hp
    · simp at this
    · simp [show m.partner = some st from hp] at this
  · intro h k _
    cases hm : (s.claim k).stageMap with
    | none => simp
    | some m =>
      have := h k m hm
      simp only [StageMap.stages, List.mem_cons, Option.mem_toList, not_or] at this
      obtain ⟨h1, h2⟩ := this
      simp only [Bool.or_eq_true, beq_iff_eq, not_or]
      exact ⟨fun e => h1 e.symm, h2⟩

/-- No stage of a BIND is in use exactly when the stages of all claims are other ones. -/
theorem State.stages_free_iff (s : State) (m : StageMap) :
    m.stages.any (fun st => (s.ownerOf st).isSome) = false
      ↔ ∀ k n st, (s.claim k).stageMap = some n → st ∈ n.stages → st ∉ m.stages := by
  simp only [List.any_eq_false, Bool.not_eq_true, Option.isSome_eq_false_iff, Option.isNone_iff_eq_none,
    State.ownerOf_eq_none_iff]
  constructor
  · exact fun h k n st hn hst hm => h st hm k n hn hst
  · exact fun h st hm k n hn hst => h k n st hn hst hm

/-- In a wired part a stage that no map names has an unowned channel. -/
theorem Wired.owner_of_free {s : State} (hw : Wired s) {st : Stage} (h : ∀ k m, (s.claim k).stageMap = some m → st ∉ m.stages) :
    (s.channel st).owner = none := by
  cases ho : (s.channel st).owner with
  | none => rfl
  | some o =>
    obtain ⟨m, hm, -⟩ := (hw.owned o.handle st o.role).2 ho
    exact absurd ((hw.mem_stages hm st).2 ⟨o.role, ho⟩) (h o.handle m hm)

/-! ### A claim created (R16, R120) -/

theorem State.bindOutcome_ok {s : State} {h : Handle} {b : BindFields} (ho : bindOutcome s h b = .ok) :
    (s.claim h).state = .unbound ∧ s.table.safeOff = false ∧ s.table.standing.state = .normal
      ∧ b.stageMap.stages.any (fun st => (s.ownerOf st).isSome) = false
      ∧ s.table.floorSum + b.base.floor ≤ s.table.g ∧ b.base.cls.cells ≤ s.memory.free := by
  unfold bindOutcome at ho
  split at ho
  · cases ho
  rename_i hb
  split at ho
  · cases ho
  split at ho
  · cases ho
  rename_i hn
  split at ho
  · cases ho
  split at ho
  · cases ho
  split at ho
  · cases ho
  refine ⟨?_, by simp_all, by simpa using hn, by simp_all, by omega, by omega⟩
  by_contra hu
  exact hb ((ClaimState.bound_iff _).2 hu)

/-- The partner of a BIND in range is not its primary stage (R7, R14). -/
theorem BindFields.partner_ne {b : BindFields} (hb : b.Admissible) : b.stageMap.partner ≠ some b.primary := by
  obtain ⟨-, hfits⟩ := hb
  unfold OptionalFits at hfits
  unfold BindFields.stageMap
  dsimp only
  split
  · rename_i p l t ho
    rw [ho] at hfits
    split at hfits
    · rename_i e; cases e
    · rename_i e; cases e
    · rename_i e
      cases e
      simpa using hfits.1
    · exact hfits.elim
  · nofun
  · nofun

theorem BindFields.claim_law (b : BindFields) : b.claim.Law := by
  simp [Claim.Law, BindFields.claim, ClaimState.live]

/-- The role a stage map gives a stage; a stage it does not name has none. -/
def StageMap.role (m : StageMap) (st : Stage) : Option Role :=
  if m.partner = some st then some .partner else if m.primary = st then some .primary else none

theorem State.createClaim_claim (s : State) (h k : Handle) (b : BindFields) :
    (s.createClaim h b).claim k = if k = h then b.claim else s.claim k := by
  unfold State.createClaim
  dsimp only
  rw [State.claim_callForPass, State.claim_setClaim]
  split
  · rfl
  · split <;> rfl

theorem State.createClaim_channel (s : State) (h : Handle) (b : BindFields) (hp : b.stageMap.partner ≠ some b.primary)
    (st : Stage) :
    (s.createClaim h b).channel st = match b.stageMap.role st with
      | none => s.channel st
      | some role => (s.channel st).takenBy ⟨h, role⟩ := by
  have primary (u : State) (hu : ∀ x, u.channel x = s.channel x) (x : Stage) :
      (u.modChannel b.primary (fun k => k.takenBy ⟨h, .primary⟩)).channel x
        = if x = b.primary then (s.channel x).takenBy ⟨h, .primary⟩ else s.channel x := by
    rw [State.channel_modChannel]
    split
    · subst_vars; rw [hu]
    · exact hu x
  unfold State.createClaim StageMap.role
  dsimp only
  rw [State.channel_callForPass, State.channel_setClaim]
  generalize hu : ({ s.setRecords h _ with memory := _, table := _ } : State) = u
  have same (x : Stage) : u.channel x = s.channel x := by rw [← hu]; rfl
  cases hq : b.stageMap.partner with
  | none =>
    rw [primary u same]
    by_cases hx : st = b.primary
    · simp [hx, show b.stageMap.primary = b.primary from rfl]
    · simp [hx, show b.stageMap.primary = b.primary from rfl, Ne.symm hx]
  | some p =>
    have hne : p ≠ b.primary := fun e => hp (by rw [hq, e])
    rw [State.channel_modChannel]
    by_cases hx : st = p
    · subst hx
      rw [if_pos rfl, primary u same, if_neg hne]
      simp
    · rw [if_neg hx, primary u same]
      by_cases hy : st = b.primary
      · simp [hy, hne, show b.stageMap.primary = b.primary from rfl]
      · simp [hy, Ne.symm hx, show b.stageMap.primary = b.primary from rfl, Ne.symm hy]

theorem State.createClaim_table (s : State) (h : Handle) (b : BindFields) :
    (s.createClaim h b).table = { s.table with floorSum := s.table.floorSum + b.base.floor } := by
  unfold State.createClaim
  dsimp only
  cases b.stageMap.partner <;> rfl

theorem State.createClaim_memory (s : State) (h : Handle) (b : BindFields) :
    (s.createClaim h b).memory = { s.memory with
      free := s.memory.free - b.base.cls.cells
      records := s.memory.records.set h.val ⟨some (Part.written b.base), b.optional.map Part.written⟩ h.isLt } := by
  unfold State.createClaim
  dsimp only
  cases b.stageMap.partner <;> rfl

theorem State.createClaim_recordsOf (s : State) (h k : Handle) (b : BindFields) : (s.createClaim h b).recordsOf k
    = (s.setRecords h ⟨some (Part.written b.base), b.optional.map Part.written⟩).recordsOf k := by
  rw [State.recordsOf, State.createClaim_memory]
  rfl

theorem State.createClaim_passes (s : State) (h : Handle) (b : BindFields) :
    (s.createClaim h b).passes = s.passes.call := by
  unfold State.createClaim
  dsimp only
  cases b.stageMap.partner <;> rfl

theorem StageMap.mem_stages_iff_role (m : StageMap) (st : Stage) : st ∈ m.stages ↔ (m.role st).isSome = true := by
  simp only [StageMap.stages, StageMap.role, List.mem_cons, Option.mem_toList]
  split
  · simp_all
  · split
    · simp_all
    · simp_all [Eq.comm]

/-- The names of a stage map whose partner is not its primary stage are its roles. -/
theorem Claim.names_iff_role {c : Claim} {m : StageMap} (hm : c.stageMap = some m) (hp : m.partner ≠ some m.primary)
    (st : Stage) (role : Role) : c.Names st role ↔ m.role st = some role := by
  simp only [Claim.Names, hm, Option.some.injEq, exists_eq_left', StageMap.role]
  constructor
  · rintro (⟨rfl, rfl⟩ | ⟨rfl, h⟩)
    · rw [if_neg hp, if_pos rfl]
    · rw [if_pos h]
  · intro h
    split at h
    · cases h; exact .inr ⟨rfl, ‹_›⟩
    · split at h
      · cases h; exact .inl ⟨rfl, ‹_›⟩
      · cases h

theorem State.createClaim_wired {s : State} (hw : Wired s) {h : Handle} {b : BindFields}
    (hu : (s.claim h).stageMap = none) (hp : b.stageMap.partner ≠ some b.primary)
    (hfree : ∀ k n st, (s.claim k).stageMap = some n → st ∈ n.stages → st ∉ b.stageMap.stages) :
    Wired (s.createClaim h b) := by
  have unowned {st : Stage} (hst : st ∈ b.stageMap.stages) : (s.channel st).owner = none :=
    hw.owner_of_free fun k n hn hst' => hfree k n st hn hst' hst
  have never (st : Stage) (role : Role) : (s.channel st).owner ≠ some ⟨h, role⟩ := by
    intro ho
    obtain ⟨m, hm, -⟩ := (hw.owned h st role).2 ho
    rw [hu] at hm
    cases hm
  have owner (st : Stage) : ((s.createClaim h b).channel st).owner = match b.stageMap.role st with
      | none => (s.channel st).owner
      | some role => some ⟨h, role⟩ := by
    rw [s.createClaim_channel h b hp]
    split <;> rfl
  have follows (st : Stage) : ((s.createClaim h b).channel st).mode = ((s.createClaim h b).ownerState st).mode
      ∧ ((s.createClaim h b).channel st).brakeEngaged = !((s.createClaim h b).ownerState st).live
      ∧ ((s.createClaim h b).channel st).GatesLaw := by
    cases hr : b.stageMap.role st with
    | some role =>
      rw [State.ownerState_of_owner (o := ⟨h, role⟩) (by rw [owner, hr]), State.createClaim_claim, if_pos rfl,
        s.createClaim_channel h b hp, hr]
      exact ⟨rfl, rfl, by rintro (e | e) <;> cases e⟩
    | none =>
      have same : (s.createClaim h b).ownerState st = s.ownerState st := by
        cases ho : (s.channel st).owner with
        | none => rw [State.ownerState_of_none ho, State.ownerState_of_none (by rw [owner, hr, ho])]
        | some o =>
          have hne : o.handle ≠ h := fun e => never st o.role (by rw [ho, ← e])
          rw [State.ownerState_of_owner ho, State.ownerState_of_owner (o := o) (by rw [owner, hr, ho]),
            State.createClaim_claim, if_neg hne]
      rw [same, s.createClaim_channel h b hp, hr]
      exact ⟨hw.mode st, hw.brake st, hw.gates st⟩
  refine ⟨fun k st role => ?_, fun st => (follows st).1, fun st => (follows st).2.1, fun st => (follows st).2.2⟩
  rw [State.createClaim_claim, owner]
  by_cases hk : k = h
  · subst hk
    rw [if_pos rfl, Claim.names_iff_role (m := b.stageMap) rfl hp]
    cases hr : b.stageMap.role st with
    | none => exact ⟨nofun, fun ho => absurd ho (never st role)⟩
    | some role' => simp
  · rw [if_neg hk, hw.owned]
    cases hr : b.stageMap.role st with
    | none => exact Iff.rfl
    | some role' =>
      rw [unowned ((b.stageMap.mem_stages_iff_role st).2 (by rw [hr]; rfl))]
      constructor
      · nofun
      · intro e
        cases e
        exact absurd rfl hk

theorem State.createClaim_entryLaws {s : State} (hs : EntryLaws s) {h : Handle} {b : BindFields} (hb : b.Admissible)
    (ho : bindOutcome s h b = .ok) : EntryLaws (s.createClaim h b) := by
  obtain ⟨hu, hoff, -, hfree, -, hcells⟩ := State.bindOutcome_ok ho
  obtain ⟨hclaims, hchannels, htotal, hfloors, hnone, hbase⟩ := hs
  obtain ⟨hw, hsafe, -, hr⟩ := (channelLaw_iff s).1 hchannels
  have entry : s.claim h = Claim.unbound := (hclaims h).1 hu
  have hp := BindFields.partner_ne hb
  have memory := s.createClaim_memory h b
  have records (k : Handle) := s.createClaim_recordsOf h k b
  have each {P : Handle → Claim → Prop} (hP : P h b.claim) (hrest : ∀ k, P k (s.claim k)) (k : Handle) :
      P k ((s.createClaim h b).claim k) := by
    rw [State.createClaim_claim]
    split
    · rename_i e; rw [e]; exact hP
    · exact hrest k
  have update (f : Claim → Nat) : (s.createClaim h b).total f + f Claim.unbound = s.total f + f b.claim := by
    have u := State.total_update (s := s) (t := s.createClaim h b) (f := f) h
      fun k hk => by rw [State.createClaim_claim, if_neg hk]
    rwa [State.createClaim_claim, if_pos rfl, entry] at u
  refine ⟨each (P := fun _ c => c.Law) b.claim_law hclaims, (channelLaw_iff _).2 ⟨?_, ?_, ?_, fun q hq hk => ?_⟩, ?_, ?_,
    fun k => ?_, fun k => ?_⟩
  · exact State.createClaim_wired hw (by rw [entry]; rfl) hp ((s.stages_free_iff _).1 hfree)
  · rw [State.createClaim_table, State.createClaim_inputs]
    exact hsafe
  · intro hon
    rw [State.createClaim_inputs, ← hsafe, hoff] at hon
    cases hon
  · rw [State.createClaim_reports] at hq
    have hl := hr q hq hk
    rw [State.createClaim_claim, if_neg]
    · exact hl
    · rintro e
      rw [e, entry] at hl
      cases hl
  · have u := update Claim.cells
    have e : b.claim.cells = b.base.cls.cells := rfl
    rw [e, show Claim.unbound.cells = 0 from rfl] at u
    rw [CellsLaw] at htotal ⊢
    rw [memory, State.createClaim_table]
    dsimp only
    omega
  · have u := update (fun c => c.floorHeld.getD 0)
    rw [State.createClaim_table]
    simp only [show Claim.unbound.floorHeld.getD 0 = 0 from rfl, show b.claim.floorHeld.getD 0 = b.base.floor from rfl] at u
    dsimp only
    omega
  · rw [State.createClaim_claim, records]
    split
    · nofun
    · rw [State.recordsOf_setRecords_of_ne _ _ _ _ ‹_›]; exact hnone k
  · rw [State.createClaim_claim, records]
    split
    · rename_i e
      rw [e, State.recordsOf_setRecords_self]
      exact fun _ => ⟨_, rfl, rfl, rfl⟩
    · rw [State.recordsOf_setRecords_of_ne _ _ _ _ ‹_›]; exact hbase k

theorem State.createClaim_sound {s : State} (hs : Sound s) (hidle : s.passes.inFlight = none)
    (hready : s.table.partState = .ready) {h : Handle} {b : BindFields} (hb : b.Admissible)
    (ho : bindOutcome s h b = .ok) : Sound (s.createClaim h b) := by
  obtain ⟨hu, -, hn, -, hcov, -⟩ := State.bindOutcome_ok ho
  have each {P : Handle → Claim → Prop} (hP : P h b.claim) (hrest : ∀ k, P k (s.claim k)) (k : Handle) :
      P k ((s.createClaim h b).claim k) := by
    rw [State.createClaim_claim]
    split
    · rename_i e; rw [e]; exact hP
    · exact hrest k
  refine hs.of_entries (State.createClaim_entryLaws hs.base.entries hb ho) (.of_eq (by simp))
    (by rw [State.createClaim_table]) (by rw [State.createClaim_table]; exact hcov) (by simp) hready
    (by rw [State.createClaim_passes, PassBook.call_inFlight]) (by rw [State.createClaim_passes, PassBook.call_void])
    (each (P := fun k c => c.state.live = true → (s.claim k).state.live = true ∨ _) (fun _ => .inr ⟨hidle, hn⟩)
      fun _ h => .inl h)
    (each (P := fun k c => c.driveGrant ≤ (s.claim k).driveGrant ∧ c.returnGrant ≤ (s.claim k).returnGrant)
      ⟨Nat.zero_le _, Nat.zero_le _⟩ fun _ => ⟨le_rfl, le_rfl⟩)

theorem Eased.done (s : State) (r : Request) (o : DoneOutcome) : Eased s (s.done r o) := .post s _

theorem Eased.tripIfFaulted (s : State) (h : Handle) (m : StageMap) : Eased s (s.tripIfFaulted h m) := by
  unfold State.tripIfFaulted
  split
  · refine Eased.trans (t := s.onStages (some m) Channel.hold) ?_ (.enterTripped _ h .stageFault)
    exact .of_work (fun k => by simp) (by simp) (by simp) (by simp) (by simp) (.of_eq (by simp)) (by simp)
      (fun q hq => .inl (by simpa using hq)) fun _ => .onStages (fun _ => rfl) fun _ _ => Channel.worked_hold _
  · exact .refl s

theorem takeBind_of_ok {s : State} {h : Handle} {b : BindFields} (ho : bindOutcome s h b = .ok) :
    takeBind s h b = ((s.createClaim h b).done ⟨h, .bind b⟩ .ok).tripIfFaulted h b.stageMap := by
  simp only [takeBind, ho]

theorem takeBind_of_ne {s : State} {h : Handle} {b : BindFields} (ho : bindOutcome s h b ≠ .ok) :
    takeBind s h b = s.done ⟨h, .bind b⟩ (bindOutcome s h b) := by
  unfold takeBind
  dsimp only
  split
  · exact absurd ‹_› ho
  · rfl

theorem takeBind_sound {s : State} (hs : Sound s) (hidle : s.passes.inFlight = none)
    (hready : s.table.partState = .ready) (h : Handle) {b : BindFields} (hb : b.Admissible) : Sound (takeBind s h b) := by
  by_cases ho : bindOutcome s h b = .ok
  · rw [takeBind_of_ok ho]
    exact ((Eased.done _ _ _).trans (.tripIfFaulted _ h _)).sound (State.createClaim_sound hs hidle hready hb ho)
  · rw [takeBind_of_ne ho]
    exact (Eased.done _ _ _).sound hs

theorem takeBind_steady (s : State) (h : Handle) (b : BindFields) : s.passes.Steady (takeBind s h b).passes := by
  by_cases ho : bindOutcome s h b = .ok
  · rw [takeBind_of_ok ho]
    refine PassBook.Steady.trans ?_ ((Eased.done _ _ _).trans (.tripIfFaulted _ h _)).steady
    rw [State.createClaim_passes]
    exact s.passes.steady_call
  · rw [takeBind_of_ne ho]
    exact .refl _

end Sys2Proof.Machine

namespace Sys2Proof.Machine

/-! ### One entry replaced (R18, R34 to R36) -/

/-- A claim put back in RUN (R35, R36). -/
def Claim.resumed (c : Claim) : Claim :=
  { c with
    state := .run, demand := 0, estimate := 0, side := .drive
    refreshTimer := .running (c.refreshWindow.getD 0) }

/-- A channel that regulates again after HALTED (R36). -/
def Channel.resumed (k : Channel) : Channel :=
  { k with mode := .regulate, integrator := 0, imbalance := 0, brakeEngaged := false }

theorem State.resumeOutcome_ok {s : State} {h : Handle} (ho : resumeOutcome s h = .ok) :
    s.table.safeOff = false ∧ ((s.claim h).state = .stale ∨ (s.claim h).state = .halted)
      ∧ s.table.standing.state = .normal := by
  unfold resumeOutcome at ho
  dsimp only at ho
  split at ho
  · cases ho
  split at ho
  · cases ho
  split at ho
  · cases ho
  split at ho
  · cases ho
  refine ⟨by simp_all, ?_, by simp_all⟩
  by_contra hn
  simp_all

theorem Claim.resumed_law {c : Claim} (h : c.Law) (hs : c.state = .stale ∨ c.state = .halted) : c.resumed.Law := by
  rcases hs with hs | hs <;> simp_all [Claim.Law, Claim.resumed, ClaimState.live]

theorem State.resumeClaim_claim (s : State) (h k : Handle) :
    (s.resumeClaim h).claim k = if k = h then (s.claim h).resumed else s.claim k := by
  unfold State.resumeClaim
  dsimp only
  split
  · rw [State.claim_onStages, State.claim_callForPass, State.claim_setClaim]; rfl
  · rw [State.claim_callForPass, State.claim_setClaim]; rfl

theorem State.resumeClaim_passes (s : State) (h : Handle) : (s.resumeClaim h).passes = s.passes.call := by
  unfold State.resumeClaim
  dsimp only
  split <;> simp

theorem State.resumeClaim_wired {s : State} (hw : Wired s) {h : Handle}
    (hs : (s.claim h).state = .stale ∨ (s.claim h).state = .halted) : Wired (s.resumeClaim h) := by
  have claims := s.resumeClaim_claim h
  have self : (s.resumeClaim h).claim h = (s.claim h).resumed := by rw [claims, if_pos rfl]
  have other (k : Handle) (hk : k ≠ h) : (s.resumeClaim h).claim k = s.claim k := by rw [claims, if_neg hk]
  have same (st : Stage) : (s.channel st).owner = (s.channel st).owner ∧ (s.channel st).mode = (s.channel st).mode
      ∧ (s.channel st).brakeEngaged = (s.channel st).brakeEngaged ∧ (s.channel st).GatesLaw :=
    ⟨rfl, rfl, rfl, hw.gates st⟩
  rcases hs with hs | hs
  · have channels : (s.resumeClaim h).channels = s.channels := by simp [State.resumeClaim, hs]
    have states (k : Handle) : ((s.resumeClaim h).claim k).stageMap = (s.claim k).stageMap
        ∧ ((s.resumeClaim h).claim k).state.mode = (s.claim k).state.mode
        ∧ ((s.resumeClaim h).claim k).state.live = (s.claim k).state.live := by
      by_cases hk : k = h
      · subst hk; rw [self, hs]; exact ⟨rfl, rfl, rfl⟩
      · rw [other k hk]; exact ⟨rfl, rfl, rfl⟩
    exact hw.of_states (fun k => (states k).1) (fun k => (states k).2.1) (fun k => (states k).2.2) fun st => by
      rw [State.channel_congr channels]; exact same st
  · refine hw.of_onStages h Channel.resumed (fun _ => rfl) other (by rw [self]; rfl) (fun _ => rfl) (fun _ _ => by rw [self]; rfl) (fun _ _ => by rw [self]; rfl)
      (fun k hk hg => ?_) s same fun st => ?_
    · rw [hs] at hk
      rintro (e | e)
      · cases e
      · exact hg (.inl hk)
    · have halted : s.resumeClaim h = ((s.setClaim h (s.claim h).resumed).callForPass).onStages (s.claim h).stageMap
          Channel.resumed := by
        unfold State.resumeClaim
        rw [if_pos hs]
        rfl
      rw [halted]
      cases hm : (s.claim h).stageMap with
      | none => rfl
      | some m =>
        rw [State.channel_onStages _ m Channel.resumed (fun _ => rfl),
          State.channel_onStages _ m Channel.resumed (fun _ => rfl), State.channel_callForPass, State.channel_setClaim]

/-- Entries that keep their stage maps, floors and conditions, and stay as bound as they were, keep cells, floors and records
accounted. -/
theorem EntryLaws.of_states {s t : State} (hs : EntryLaws s) (hclaims : ClaimLaw t) (hwired : Wired t)
    (hoff : SafeOffLaw t) (hinputs : t.inputs = s.inputs) (hreports : t.reports = s.reports) (htable : t.table = s.table)
    (hmemory : t.memory = s.memory)
    (heach : ∀ k, (t.claim k).stageMap = (s.claim k).stageMap ∧ (t.claim k).floorHeld = (s.claim k).floorHeld
      ∧ (t.claim k).condition = (s.claim k).condition ∧ ((t.claim k).state = .unbound ↔ (s.claim k).state = .unbound)) :
    EntryLaws t := by
  obtain ⟨-, hchannels, hcells, hfloors, hnone, hbase⟩ := hs
  obtain ⟨-, hsafe, -, hr⟩ := (channelLaw_iff s).1 hchannels
  have records (k : Handle) : t.recordsOf k = s.recordsOf k := State.recordsOf_congr hmemory k
  have cells : t.total Claim.cells = s.total Claim.cells :=
    State.total_congr fun k => by simp only [Claim.cells, (heach k).1]
  have floors : t.total (fun c => c.floorHeld.getD 0) = s.total (fun c => c.floorHeld.getD 0) :=
    State.total_congr fun k => by simp only [(heach k).2.1]
  refine ⟨hclaims, (channelLaw_iff t).2 ⟨hwired, by rw [htable, hinputs, hsafe], hoff, fun q hq hk => ?_⟩, ?_, ?_,
    fun k hk => ?_, fun k hk => ?_⟩
  · rw [(heach _).2.2.1]
    exact hr q (hreports ▸ hq) hk
  · rw [CellsLaw, hmemory, htable, cells]
    exact hcells
  · rw [htable, floors]
    exact hfloors
  · rw [records]; exact hnone k ((heach k).2.2.2.1 hk)
  · rw [records, (heach k).2.1]; exact hbase k (mt (heach k).2.2.2.2 hk)

theorem State.resumeClaim_sound {s : State} (hs : Sound s) (hidle : s.passes.inFlight = none) {h : Handle}
    (ho : resumeOutcome s h = .ok) : Sound (s.resumeClaim h) := by
  obtain ⟨hoff, hstate, hn⟩ := State.resumeOutcome_ok ho
  have hb : (s.claim h).state ≠ .unbound := by rcases hstate with e | e <;> rw [e] <;> nofun
  obtain ⟨hw, hsafe, -, -⟩ := (channelLaw_iff s).1 hs.base.entries.channels
  have each {P : Handle → Claim → Prop} (hP : P h (s.claim h).resumed) (hrest : ∀ k, P k (s.claim k)) (k : Handle) :
      P k ((s.resumeClaim h).claim k) := by
    rw [State.resumeClaim_claim]
    split
    · rename_i e; rw [e]; exact hP
    · exact hrest k
  have entries : EntryLaws (s.resumeClaim h) := by
    refine hs.base.entries.of_states (each (P := fun _ c => c.Law) (Claim.resumed_law (hs.base.entries.claims h) hstate)
      hs.base.entries.claims) (State.resumeClaim_wired hw hstate) (fun hon => ?_) (by simp) (by simp) (by simp) (by simp)
      (each (P := fun k c => c.stageMap = (s.claim k).stageMap ∧ c.floorHeld = (s.claim k).floorHeld
        ∧ c.condition = (s.claim k).condition ∧ (c.state = .unbound ↔ (s.claim k).state = .unbound))
        ⟨rfl, rfl, rfl, nofun, fun e => absurd e hb⟩ fun _ => ⟨rfl, rfl, rfl, Iff.rfl⟩)
    rw [State.resumeClaim_inputs, ← hsafe, hoff] at hon
    cases hon
  exact hs.of_entries entries (.of_eq (by simp)) (by simp) (by simpa using hs.base.covered) (by simp)
    (hs.base.part.ready_of_bound hb) (by rw [State.resumeClaim_passes, PassBook.call_inFlight])
    (by rw [State.resumeClaim_passes, PassBook.call_void])
    (each (P := fun k c => c.state.live = true → (s.claim k).state.live = true ∨ _) (fun _ => .inr ⟨hidle, hn⟩)
      fun _ h => .inl h)
    (each (P := fun k c => c.driveGrant ≤ (s.claim k).driveGrant ∧ c.returnGrant ≤ (s.claim k).returnGrant)
      ⟨le_rfl, le_rfl⟩ fun _ => ⟨le_rfl, le_rfl⟩)

theorem takeResume_of_ok {s : State} {h : Handle} (ho : resumeOutcome s h = .ok) :
    takeResume s h = (s.resumeClaim h).done ⟨h, .resume⟩ .ok := by simp only [takeResume, ho]

theorem takeResume_of_ne {s : State} {h : Handle} (ho : resumeOutcome s h ≠ .ok) :
    takeResume s h = s.done ⟨h, .resume⟩ (resumeOutcome s h) := by
  unfold takeResume
  dsimp only
  split
  · exact absurd ‹_› ho
  · rfl

theorem takeResume_sound {s : State} (hs : Sound s) (hidle : s.passes.inFlight = none) (h : Handle) :
    Sound (takeResume s h) := by
  by_cases ho : resumeOutcome s h = .ok
  · rw [takeResume_of_ok ho]
    exact (Eased.done _ _ _).sound (State.resumeClaim_sound hs hidle ho)
  · rw [takeResume_of_ne ho]
    exact (Eased.done _ _ _).sound hs

theorem takeResume_steady (s : State) (h : Handle) : s.passes.Steady (takeResume s h).passes := by
  by_cases ho : resumeOutcome s h = .ok
  · rw [takeResume_of_ok ho, State.done_passes, State.resumeClaim_passes]
    exact s.passes.steady_call
  · rw [takeResume_of_ne ho]
    exact .refl _

/-! ### MODIFY (R18, R19) -/

theorem State.rewriteBase_claim (s : State) (h k : Handle) (r : BaseRecord) :
    (s.rewriteBase h r).claim k = if k = h then { s.claim h with floorHeld := some r.floor } else s.claim k := by
  rw [State.rewriteBase, State.claim_setClaim]
  rfl

theorem State.rewriteBase_recordsOf (s : State) (h k : Handle) (r : BaseRecord) : (s.rewriteBase h r).recordsOf k
    = (s.setRecords h { s.recordsOf h with base := some (Part.written r) }).recordsOf k := rfl

theorem State.rewriteBase_sound {s : State} (hs : Sound s) {h : Handle} (hb : (s.claim h).state ≠ .unbound)
    {r : BaseRecord} (hg : s.table.floorSum - (s.claim h).floorHeld.getD 0 + r.floor ≤ s.table.g) :
    Sound (s.rewriteBase h r) := by
  obtain ⟨hclaims, hchannels, hcells, hfloors, hnone, hbase⟩ := hs.base.entries
  obtain ⟨hw, hsafe, hoff, hr⟩ := (channelLaw_iff s).1 hchannels
  have each {P : Handle → Claim → Prop} (hP : P h { s.claim h with floorHeld := some r.floor })
      (hrest : ∀ k, P k (s.claim k)) (k : Handle) : P k ((s.rewriteBase h r).claim k) := by
    rw [State.rewriteBase_claim]
    split
    · rename_i e; rw [e]; exact hP
    · exact hrest k
  have law : Claim.Law { s.claim h with floorHeld := some r.floor } := by
    have := hclaims h
    simp_all [Claim.Law]
  have states := each (P := fun k c => c.stageMap = (s.claim k).stageMap ∧ c.state = (s.claim k).state
    ∧ c.condition = (s.claim k).condition ∧ c.driveGrant = (s.claim k).driveGrant ∧ c.returnGrant = (s.claim k).returnGrant)
    ⟨rfl, rfl, rfl, rfl, rfl⟩ fun _ => ⟨rfl, rfl, rfl, rfl, rfl⟩
  have wired : Wired (s.rewriteBase h r) := hw.of_states (fun k => (states k).1) (fun k => by rw [(states k).2.1])
    (fun k => by rw [(states k).2.1]) fun st => ⟨rfl, rfl, rfl, hw.gates st⟩
  refine hs.of_entries ⟨each (P := fun _ c => c.Law) law hclaims, (channelLaw_iff _).2 ⟨wired, hsafe,
    fun hon k => by rw [(states k).2.1]; exact hoff hon k, fun q hq hk => by rw [(states _).2.2.1]; exact hr q hq hk⟩,
    ?_, ?_, fun k => ?_, fun k => ?_⟩ (.refl _) rfl hg rfl (hs.base.part.ready_of_bound hb) rfl rfl
    (fun k hl => .inl (by rwa [(states k).2.1] at hl))
    fun k => ⟨(states k).2.2.2.1.le, (states k).2.2.2.2.le⟩
  · have e : (s.rewriteBase h r).total Claim.cells = s.total Claim.cells :=
      State.total_congr fun k => by simp only [Claim.cells, (states k).1]
    rw [CellsLaw, e]
    exact hcells
  · have u := State.total_update (s := s) (t := s.rewriteBase h r) (f := fun c => c.floorHeld.getD 0) h
      fun k hk => by rw [State.rewriteBase_claim, if_neg hk]
    rw [State.rewriteBase_claim, if_pos rfl] at u
    have hle := s.le_total (fun c => c.floorHeld.getD 0) h
    simp only [Option.getD_some] at u hle
    show s.table.floorSum - (s.claim h).floorHeld.getD 0 + r.floor = _
    omega
  · rw [(states k).2.1, State.rewriteBase_recordsOf]
    intro hk
    have hne : k ≠ h := fun e => hb (e ▸ hk)
    rw [State.recordsOf_setRecords_of_ne _ _ _ _ hne]
    exact hnone k hk
  · rw [(states k).2.1, State.rewriteBase_recordsOf, State.rewriteBase_claim]
    by_cases hk : k = h
    · rw [if_pos hk, hk, State.recordsOf_setRecords_self]
      exact fun _ => ⟨_, rfl, rfl, rfl⟩
    · rw [if_neg hk, State.recordsOf_setRecords_of_ne _ _ _ _ hk]
      exact hbase k

theorem modifyOutcome_ok {others g : Nat} {r : BaseRecord} (ho : modifyOutcome others g r = .ok) : others + r.floor ≤ g := by
  unfold modifyOutcome at ho
  split at ho
  · cases ho
  · omega

/-- What a MODIFY does once its read has found the record (R18, R19). -/
def State.modified (s : State) (h : Handle) (m : ModifyFields) (r : BaseRecord) : State :=
  match modifyOutcome (s.table.floorSum - (s.claim h).floorHeld.getD 0) s.table.g (m.apply r) with
  | .ok =>
    if r.callsForPass (m.apply r) then ((s.rewriteBase h (m.apply r)).done ⟨h, .modify m⟩ .ok).callForPass
    else (s.rewriteBase h (m.apply r)).done ⟨h, .modify m⟩ .ok
  | o => s.done ⟨h, .modify m⟩ o

theorem takeModify_of_some {s u : State} {h : Handle} {m : ModifyFields} {r : BaseRecord}
    (hu : (s.claim h).state ≠ .unbound) (hw : ¬((s.claim h).state = .tripped ∨ (s.claim h).condition = some .lost))
    (hr : s.readBase h = (some r, u)) : takeModify s h m = u.modified h m r := by
  have hc : u.claim h = s.claim h := by rw [show u = (s.readBase h).2 by rw [hr], State.claim_readBase]
  unfold takeModify State.modified
  dsimp only
  rw [if_neg hu, if_neg hw, State.tableRead_of_some hr, hc] <;> rfl

theorem takeModify_of_none {s u : State} {h : Handle} {m : ModifyFields} (hu : (s.claim h).state ≠ .unbound)
    (hw : ¬((s.claim h).state = .tripped ∨ (s.claim h).condition = some .lost)) (hr : s.readBase h = (none, u)) :
    takeModify s h m = (s.recordLost h).done ⟨h, .modify m⟩ .wrongState := by
  obtain rfl := State.readBase_none hr
  unfold takeModify
  dsimp only
  rw [if_neg hu, if_neg hw, State.tableRead_of_none hr]

theorem State.modified_sound {s : State} (hs : Sound s) {h : Handle} (hb : (s.claim h).state ≠ .unbound)
    (m : ModifyFields) (r : BaseRecord) : Sound (s.modified h m r) := by
  unfold State.modified
  split
  · rename_i ho
    have rewritten := (Eased.done _ ⟨h, .modify m⟩ .ok).sound (State.rewriteBase_sound hs hb (modifyOutcome_ok ho))
    split
    · exact (Eased.callForPass _).sound rewritten
    · exact rewritten
  · exact (Eased.done _ _ _).sound hs

theorem State.modified_steady (s : State) (h : Handle) (m : ModifyFields) (r : BaseRecord) :
    s.passes.Steady (s.modified h m r).passes := by
  unfold State.modified
  split
  · split
    · exact s.passes.steady_call
    · exact .of_eq rfl
  · exact .refl _

/-- A MODIFY either only eases the claim or rewrites its record after a read. -/
theorem takeModify_cases (s : State) (h : Handle) (m : ModifyFields) :
    Eased s (takeModify s h m) ∨ ∃ u r, Eased s u ∧ (u.claim h).state ≠ .unbound ∧ takeModify s h m = u.modified h m r := by
  by_cases hu : (s.claim h).state = .unbound
  · refine .inl ?_
    unfold takeModify
    dsimp only
    rw [if_pos hu]
    exact .done _ _ _
  by_cases hw : (s.claim h).state = .tripped ∨ (s.claim h).condition = some .lost
  · refine .inl ?_
    unfold takeModify
    dsimp only
    rw [if_neg hu, if_pos hw]
    exact .done _ _ _
  rcases hr : s.readBase h with ⟨_ | r, u⟩
  · rw [takeModify_of_none hu hw hr]
    exact .inl ((Eased.recordLost s h).trans (.done _ _ _))
  · have e : Eased s u := by simpa [hr] using Eased.readBase s h
    exact .inr ⟨u, r, e, (e.claims h).bound hu, takeModify_of_some hu hw hr⟩

theorem takeModify_sound {s : State} (hs : Sound s) (h : Handle) (m : ModifyFields) : Sound (takeModify s h m) := by
  rcases takeModify_cases s h m with e | ⟨u, r, e, hb, ht⟩
  · exact e.sound hs
  · rw [ht]
    exact State.modified_sound (e.sound hs) hb m r

theorem takeModify_steady (s : State) (h : Handle) (m : ModifyFields) : s.passes.Steady (takeModify s h m).passes := by
  rcases takeModify_cases s h m with e | ⟨u, r, e, hb, ht⟩
  · exact e.steady
  · rw [ht]
    exact e.steady.trans (u.modified_steady h m r)

/-! ### RETIRE (R37 to R41) -/

theorem takeRetire_cases (s : State) (h : Handle) :
    Eased s (takeRetire s h)
      ∨ ((s.claim h).state ≠ .unbound ∧ takeRetire s h = (s.freeClaim h).done ⟨h, .retire⟩ .ok) := by
  unfold takeRetire
  dsimp only
  split
  · exact .inl (.done _ _ _)
  · exact .inl ((Eased.enterReleasing (.inl ‹_›)).trans (.done _ _ _))
  · exact .inl ((Eased.enterReleasing (.inr ‹_›)).trans (.done _ _ _))
  · exact .inl (.done _ _ _)
  · exact .inl (.done _ _ _)
  · rename_i hs; exact .inr ⟨by rw [hs]; nofun, rfl⟩
  · rename_i hs; exact .inr ⟨by rw [hs]; nofun, rfl⟩

theorem takeRetire_sound {s : State} (hs : Sound s) (h : Handle) : Sound (takeRetire s h) := by
  rcases takeRetire_cases s h with e | ⟨hb, e⟩
  · exact e.sound hs
  · rw [e]
    exact (Eased.done _ _ _).sound (State.freeClaim_sound hs hb)

theorem takeRetire_steady (s : State) (h : Handle) : s.passes.Steady (takeRetire s h).passes := by
  rcases takeRetire_cases s h with e | ⟨hb, e⟩
  · exact e.steady
  · rw [e]
    exact s.freeClaim_steady h

end Sys2Proof.Machine

namespace Sys2Proof.Machine

/-! ### PUSH, POP and the reads of STATUS (R62, R70 to R73) -/

theorem State.pushOutcome_ok {s : State} {e : Envelope} (ho : pushOutcome s e = .ok) :
    s.table.stack.length < 8 ∧ s.memory.free ≠ 0 ∧ s.table.g ≤ e.driveLimit := by
  unfold pushOutcome at ho
  split at ho
  · cases ho
  rename_i hl
  split at ho
  · cases ho
  split at ho
  · cases ho
  exact ⟨Nat.lt_of_not_le hl, ‹_›, by omega⟩

/-- The stack changes in a READY part, with a cell for each entry, no entry limiting the drive side below G. -/
theorem BaseLaws.of_stack {s t : State} (hs : BaseLaws s) (hready : s.table.partState = .ready)
    (ht : ∃ free stack, t = { s with memory := { s.memory with free := free }, table := { s.table with stack := stack } })
    (hcells : t.memory.free + t.table.stack.length = s.memory.free + s.table.stack.length)
    (hdepth : 1 ≤ t.table.stack.length ∧ t.table.stack.length ≤ 8) (hcov : ∀ e ∈ t.table.stack, e.Covers s.table.g) :
    BaseLaws t := by
  obtain ⟨hentries, hport, hcovered, -, ⟨h1, h2, h3, h4, -⟩, hfits, hgrants⟩ := hs
  obtain ⟨free, stack, rfl⟩ := ht
  refine ⟨hentries.congr rfl rfl rfl rfl rfl rfl rfl hcells, hport, hcovered, ⟨fun _ => hdepth, fun hp => ?_⟩,
    ⟨h1, h2, h3, h4, hcov⟩, hfits, hgrants⟩
  rw [show s.table.partState = .unconfigured from hp] at hready
  cases hready

theorem State.pushEntry_base {s : State} (hs : BaseLaws s) (hready : s.table.partState = .ready) {e : Envelope}
    (ho : pushOutcome s e = .ok) : BaseLaws (s.pushEntry e) := by
  obtain ⟨hl, hfree, hg⟩ := State.pushOutcome_ok ho
  have len : (s.pushEntry e).table.stack.length = s.table.stack.length + 1 := List.length_append
  refine hs.of_stack hready ⟨_, _, rfl⟩ ?_ (by omega) fun x hx => ?_
  · rw [len]
    show s.memory.free - 1 + (s.table.stack.length + 1) = _
    omega
  · rcases List.mem_append.1 hx with hx | hx
    · obtain ⟨-, -, -, -, hcov⟩ := hs.standing
      exact hcov x hx
    · rw [List.mem_singleton.1 hx]
      exact ⟨hg, hg⟩

theorem State.popEntry_base {s : State} (hs : BaseLaws s) (hready : s.table.partState = .ready)
    (hl : 1 < s.table.stack.length) : BaseLaws s.popEntry := by
  have len : s.popEntry.table.stack.length = s.table.stack.length - 1 := List.length_dropLast
  have := hs.part.1 hready
  refine hs.of_stack hready ⟨_, _, rfl⟩ ?_ (by omega) fun x hx => ?_
  · rw [len]
    show s.memory.free + 1 + (s.table.stack.length - 1) = _
    omega
  · obtain ⟨-, -, -, -, hcov⟩ := hs.standing
    exact hcov x (List.dropLast_subset _ hx)

theorem takePush_of_ok {s : State} {h : Handle} {e : Envelope} (ho : pushOutcome s e = .ok) :
    takePush s h e = ((s.pushEntry e).recompute).done ⟨h, .push e⟩ .ok := by simp only [takePush, ho]

theorem takePush_of_ne {s : State} {h : Handle} {e : Envelope} (ho : pushOutcome s e ≠ .ok) :
    takePush s h e = s.done ⟨h, .push e⟩ (pushOutcome s e) := by
  unfold takePush
  dsimp only
  split
  · exact absurd ‹_› ho
  · rfl

theorem takePush_sound {s : State} (hs : Sound s) (hready : s.table.partState = .ready) (h : Handle) (e : Envelope) :
    Sound (takePush s h e) := by
  by_cases ho : pushOutcome s e = .ok
  · rw [takePush_of_ok ho]
    exact (Eased.done _ _ _).sound (State.recompute_sound (State.pushEntry_base hs.base hready ho))
  · rw [takePush_of_ne ho]
    exact (Eased.done _ _ _).sound hs

theorem takePush_steady (s : State) (h : Handle) (e : Envelope) : s.passes.Steady (takePush s h e).passes := by
  by_cases ho : pushOutcome s e = .ok
  · rw [takePush_of_ok ho]
    exact (s.pushEntry e).recompute_steady
  · rw [takePush_of_ne ho]
    exact .refl _

/-- A read of an envelope either reads, or finds a loss and recomputes (R62). -/
theorem State.readEnvelopeAndRecompute_cases (s : State) (depth : Nat) :
    (s.readEnvelopeAndRecompute depth).2 = (s.readEnvelope depth).2
      ∨ (s.readEnvelopeAndRecompute depth).2 = (s.readEnvelope depth).2.recompute := by
  unfold State.readEnvelopeAndRecompute
  split <;> simp_all

@[simp] theorem State.recompute_table (s : State) :
    s.recompute.table = { s.formBudgets.2.table with budgets := s.formBudgets.1 } := State.applyBudgets_table _ _

theorem State.readEnvelopeAndRecompute_sound {s : State} (hs : Sound s) (depth : Nat) :
    Sound (s.readEnvelopeAndRecompute depth).2 := by
  have hread := (EnvelopeReads.readEnvelope s depth).sound hs
  rcases s.readEnvelopeAndRecompute_cases depth with e | e <;> rw [e]
  · exact hread
  · exact State.recompute_sound hread.base

theorem State.readEnvelopeAndRecompute_steady (s : State) (depth : Nat) :
    s.passes.Steady (s.readEnvelopeAndRecompute depth).2.passes := by
  have hread := PassBook.Steady.of_eq (EnvelopeReads.readEnvelope s depth).passes
  rcases s.readEnvelopeAndRecompute_cases depth with e | e <;> rw [e]
  · exact hread
  · exact hread.trans (State.recompute_steady _)

/-- A read of the stack, with any recomputation, leaves the depth and the part state. -/
theorem State.readEnvelopeAndRecompute_depth (s : State) (depth : Nat) :
    (s.readEnvelopeAndRecompute depth).2.table.stack.length = s.table.stack.length
      ∧ (s.readEnvelopeAndRecompute depth).2.table.partState = s.table.partState := by
  have part : (s.readEnvelope depth).2.table.partState = s.table.partState := by rw [s.readEnvelope_table]
  rcases s.readEnvelopeAndRecompute_cases depth with e | e <;> rw [e]
  · exact ⟨s.readEnvelope_depth depth, part⟩
  · rw [State.recompute_table]
    refine ⟨by simp, ?_⟩
    rw [State.formBudgets_table]
    exact part

theorem takePop_cases (s : State) (h : Handle) (tag : Nat) :
    (∃ o, takePop s h tag = s.done ⟨h, .pop tag⟩ o)
      ∨ (1 < s.table.stack.length
        ∧ ((∃ o, takePop s h tag = (s.readEnvelopeAndRecompute s.table.stack.length).2.done ⟨h, .pop tag⟩ o)
          ∨ takePop s h tag
            = ((s.readEnvelopeAndRecompute s.table.stack.length).2.popEntry.recompute).done ⟨h, .pop tag⟩ .ok)) := by
  unfold takePop
  dsimp only
  split
  · exact .inl ⟨_, rfl⟩
  · refine .inr ⟨by omega, ?_⟩
    split
    · rename_i e u hu
      rw [hu]
      split
      · exact .inr rfl
      · exact .inl ⟨_, rfl⟩
    · rename_i u hu
      rw [hu]
      exact .inr rfl

theorem takePop_sound {s : State} (hs : Sound s) (hready : s.table.partState = .ready) (h : Handle) (tag : Nat) :
    Sound (takePop s h tag) := by
  have hread := State.readEnvelopeAndRecompute_sound hs s.table.stack.length
  obtain ⟨hdepth, hpart⟩ := s.readEnvelopeAndRecompute_depth s.table.stack.length
  rcases takePop_cases s h tag with ⟨o, e⟩ | ⟨hl, ⟨o, e⟩ | e⟩ <;> rw [e]
  · exact (Eased.done _ _ _).sound hs
  · exact (Eased.done _ _ _).sound hread
  · exact (Eased.done _ _ _).sound
      (State.recompute_sound (State.popEntry_base hread.base (hpart.trans hready) (by rwa [hdepth])))

theorem takePop_steady (s : State) (h : Handle) (tag : Nat) : s.passes.Steady (takePop s h tag).passes := by
  have hread := s.readEnvelopeAndRecompute_steady s.table.stack.length
  rcases takePop_cases s h tag with ⟨o, e⟩ | ⟨-, ⟨o, e⟩ | e⟩ <;> rw [e]
  · exact .refl _
  · exact hread
  · exact hread.trans (State.recompute_steady (s.readEnvelopeAndRecompute s.table.stack.length).2.popEntry)

theorem statusReads_sound (depths : List Nat) (acc : List (Option Nat) × State) (hs : Sound acc.2) :
    Sound (depths.foldl statusRead acc).2 ∧ acc.2.passes.Steady (depths.foldl statusRead acc).2.passes := by
  induction depths generalizing acc with
  | nil => exact ⟨hs, .refl _⟩
  | cons d ds ih =>
    have e : (statusRead acc d).2 = (acc.2.readEnvelopeAndRecompute d).2 := by
      unfold statusRead
      split <;> simp_all
    obtain ⟨hsound, hsteady⟩ := ih (statusRead acc d) (e ▸ State.readEnvelopeAndRecompute_sound hs d)
    exact ⟨hsound, PassBook.Steady.trans (e ▸ acc.2.readEnvelopeAndRecompute_steady d) hsteady⟩

theorem statusTags_sound {s : State} (hs : Sound s) : Sound (statusTags s).2 ∧ s.passes.Steady (statusTags s).2.passes :=
  statusReads_sound _ ([], s) hs

/-! ### CONFIGURE (R68, R150, R180) -/

theorem State.claims_toList (s : State) : s.claims.toList = Handle.all.map s.claim := by
  refine List.ext_getElem (by simp [Handle.all_eq]) fun i h1 h2 => ?_
  simp [Handle.all_eq, State.claim, Vector.get]

/-- The claims counted are the entries that are not UNBOUND (R182). -/
theorem State.boundClaims_eq (s : State) :
    s.boundClaims = (Handle.all.filter (fun h => decide ((s.claim h).state ≠ .unbound))).length := by
  rw [State.boundClaims, State.claims_toList, List.countP_map, List.countP_eq_length_filter]
  congr 1
  refine List.filter_congr fun h _ => ?_
  simp only [Function.comp]
  cases (s.claim h).state <;> rfl

theorem State.boundClaims_eq_zero (s : State) : s.boundClaims = 0 ↔ ∀ h, (s.claim h).state = .unbound := by
  rw [State.boundClaims_eq, List.length_eq_zero_iff, List.filter_eq_nil_iff]
  simp [Handle.mem_all]

theorem State.configured_base {s : State} (hs : Sound s) {f : ConfigureFields} (hf : f.Admissible)
    (hu : ∀ h, (s.claim h).state = .unbound) (hl : s.table.stack.length ≤ 1) :
    BaseLaws ((s.configureMonitor f).configureTable f) := by
  obtain ⟨⟨hentries, hport, -, hpart, -, hfits, hgrants⟩, -⟩ := hs
  have unbound (h : Handle) : s.claim h = Claim.unbound := (hentries.claims h).1 (hu h)
  have nothing (f : Claim → Nat) (hf : f Claim.unbound = 0) : s.total f = 0 := by
    rw [State.total_eq_sum]
    exact Finset.sum_eq_zero fun k _ => by rw [unbound, hf]
  have idle (h : Handle) : (s.claim h).state.live = false := by rw [hu h]; rfl
  have hcells := hentries.cells
  have hfloors := hentries.floors
  rw [CellsLaw, nothing _ rfl] at hcells
  rw [nothing _ rfl] at hfloors
  have link : s.link.Noticed (s.configureMonitor f).link := by
    unfold State.configureMonitor
    dsimp only
    split
    · exact .refl _
    · exact State.post_noticed s _
  have rest : ∃ l m, (s.configureMonitor f) = { s with link := l, monitor := m } ∧ s.link.Noticed l
      ∧ m.state = .absent ∧ m.g = f.g := by
    refine ⟨(s.configureMonitor f).link, (s.configureMonitor f).monitor, ?_, link, ?_⟩
    · unfold State.configureMonitor
      dsimp only
      split <;> rfl
    · unfold State.configureMonitor
      dsimp only
      split <;> exact ⟨rfl, rfl⟩
  obtain ⟨l, m, e, hlink, hm, hg⟩ := rest
  rw [e]
  unfold State.configureTable
  refine ⟨hentries.congr rfl rfl rfl rfl rfl rfl rfl ?_, LinkPort.Law.noticed hport hlink, ?_, ⟨fun _ => ⟨le_rfl, by simp⟩, nofun⟩,
    ⟨hm.symm, hg.symm, nofun, fun _ h => idle h, fun x hx => ?_⟩, hfits, hgrants⟩
  · cases hp : s.table.partState with
    | unconfigured =>
      have hstack := (hpart.2 hp).1
      simp only [hstack, List.length_nil] at hcells ⊢
      simp
      omega
    | ready =>
      have := (hpart.1 hp).1
      simp
      omega
  · show s.table.floorSum ≤ f.g
    omega
  · rw [List.mem_singleton.1 hx]
    exact ⟨hf.2.1, hf.2.1⟩

theorem configurePart_sound {s : State} (hs : Sound s) {f : ConfigureFields} (hf : f.Admissible) :
    Sound (configurePart s f).state ∧ s.passes.Steady (configurePart s f).state.passes := by
  unfold configurePart
  split
  · exact ⟨hs, .refl _⟩
  · rename_i hb
    simp only [not_or, not_not, Nat.not_lt, State.boundClaims_eq_zero] at hb
    have passes : ((s.configureMonitor f).configureTable f).passes = s.passes := by
      unfold State.configureMonitor State.configureTable
      dsimp only
      split <;> rfl
    exact ⟨State.recompute_sound (State.configured_base hs hf hb.1 hb.2),
      passes ▸ ((s.configureMonitor f).configureTable f).recompute_steady⟩

end Sys2Proof.Machine

namespace Sys2Proof.Machine

/-! ### The reads of a pass start (R89, R90) -/

/-- The entry a live claim makes in the snapshot; none when its base part is lost (R89, R90). -/
def State.entryFor (s : State) (h : Handle) : Option SnapshotEntry :=
  if (s.claim h).state.live then (s.readBase h).1.map (snapshotEntry h (s.claim h)) else none

/-- A checked read of one record part depends on that record alone. -/
theorem State.readBase_fst_congr {s t : State} {h : Handle} (e : t.recordsOf h = s.recordsOf h) :
    (t.readBase h).1 = (s.readBase h).1 := by
  unfold State.readBase
  rw [e]
  cases (s.recordsOf h).base with
  | none => rfl
  | some p => cases ho : p.outcome <;> simp only [ho]

theorem State.entryFor_congr {s t : State} {h : Handle} (hc : t.claim h = s.claim h) (hr : t.recordsOf h = s.recordsOf h) :
    t.entryFor h = s.entryFor h := by
  rw [State.entryFor, hc, State.readBase_fst_congr hr]
  rfl

theorem State.readBase_recordsOf_of_ne (s : State) {h k : Handle} (hk : k ≠ h) :
    (s.readBase h).2.recordsOf k = s.recordsOf k := by
  rcases s.readBase_cases h with e | ⟨p, v, -, -, -, e⟩ <;> rw [e]
  exact s.recordsOf_setRecords_of_ne h k _ hk

theorem State.tableRead_recordsOf_of_ne (s : State) {h k : Handle} (hk : k ≠ h) :
    (s.tableRead h).2.recordsOf k = s.recordsOf k := by
  rw [s.tableRead_eq h]
  cases (s.readBase h).1 with
  | none => rw [← s.readBase_recordsOf_of_ne hk]; exact State.recordsOf_congr (by simp) k
  | some r => exact s.readBase_recordsOf_of_ne hk

theorem readForPass_of_live {acc : List SnapshotEntry} {s : State} {h : Handle} (hl : (s.claim h).state.live = true) :
    readForPass (acc, s) h = (acc ++ (s.entryFor h).toList, (s.tableRead h).2) := by
  unfold readForPass State.entryFor
  rw [if_pos hl, if_pos hl]
  rcases hr : s.readBase h with ⟨_ | r, u⟩
  · simp only [State.tableRead_of_none hr]
    simp
  · have hc : u.claim h = s.claim h := by rw [show u = (s.readBase h).2 by rw [hr], State.claim_readBase]
    simp only [State.tableRead_of_some hr, hc]
    simp

theorem State.entryFor_of_not_live {s : State} {h : Handle} (hl : (s.claim h).state.live = false) :
    s.entryFor h = none := by
  rw [State.entryFor, if_neg (by simp [hl])]

/-- The reads of a pass start: the live claims in order, each with one read, found entries joining the snapshot. -/
theorem readsForPass_eq (hs : List Handle) (hn : hs.Nodup) (acc : List SnapshotEntry) (s : State) :
    hs.foldl readForPass (acc, s) = (acc ++ hs.filterMap s.entryFor,
      (hs.filter (fun h => (s.claim h).state.live)).foldl (fun u h => (u.tableRead h).2) s) := by
  induction hs generalizing acc s with
  | nil => simp
  | cons h hs ih =>
    obtain ⟨hh, hn⟩ := List.nodup_cons.1 hn
    rw [List.foldl_cons]
    cases hl : (s.claim h).state.live with
    | false =>
      rw [readForPass_not_live s acc h hl, ih hn, List.filterMap_cons, State.entryFor_of_not_live hl,
        List.filter_cons_of_neg (by simp [hl])]
    | true =>
      have stands (k : Handle) (hk : k ∈ hs) : (s.tableRead h).2.claim k = s.claim k
          ∧ (s.tableRead h).2.recordsOf k = s.recordsOf k := by
        have hne : k ≠ h := fun e => hh (e ▸ hk)
        exact ⟨s.tableRead_claim_of_ne h k hne, s.tableRead_recordsOf_of_ne hne⟩
      have entries : hs.filterMap (s.tableRead h).2.entryFor = hs.filterMap s.entryFor :=
        List.filterMap_congr fun k hk => State.entryFor_congr (stands k hk).1 (stands k hk).2
      have live : hs.filter (fun k => ((s.tableRead h).2.claim k).state.live) = hs.filter fun k => (s.claim k).state.live :=
        List.filter_congr fun k hk => by rw [(stands k hk).1]
      rw [readForPass_of_live hl, ih hn, entries, live, List.filter_cons_of_pos (by simp [hl]), List.foldl_cons,
        List.filterMap_cons]
      cases s.entryFor h <;> simp

theorem Handle.all_nodup : Handle.all.Nodup := by rw [Handle.all_eq]; exact List.nodup_finRange 16

/-- The snapshot a pass start takes. -/
def State.snapshot (s : State) : Snapshot := ⟨s.table.budgets, Handle.all.filterMap s.entryFor⟩

/-- The part after the reads of a pass start. -/
def State.readLive (s : State) : State :=
  (Handle.all.filter (fun h => (s.claim h).state.live)).foldl (fun u h => (u.tableRead h).2) s

theorem State.reads_eq (s : State) : Handle.all.foldl readForPass ([], s) = (s.snapshot.entries, s.readLive) :=
  readsForPass_eq Handle.all Handle.all_nodup [] s

theorem Eased.readLive (s : State) : Eased s s.readLive := by
  have e := Eased.readsForPass ([], s) Handle.all
  rwa [State.reads_eq] at e

/-- A pass starts (R88 to R90). -/
theorem State.startPass_eq (s : State) : s.startPass = { s.readLive with
    passes := { s.readLive.passes with
      inFlight := some s.snapshot.compute, wanted := false, void := false, rerun := false } } := by
  have table : s.readLive.table.budgets = s.table.budgets := by rw [(Eased.readLive s).table]
  unfold State.startPass
  rw [State.reads_eq]
  dsimp only
  rw [table]
  rfl

theorem State.entryFor_handle {s : State} {h : Handle} {e : SnapshotEntry} (he : s.entryFor h = some e) : e.handle = h := by
  unfold State.entryFor at he
  split at he
  · obtain ⟨r, -, rfl⟩ := Option.map_eq_some_iff.1 he; rfl
  · cases he

theorem State.entries_handles (s : State) (hs : List Handle) :
    (hs.filterMap s.entryFor).map (·.handle) = hs.filter (fun h => (s.entryFor h).isSome) := by
  induction hs with
  | nil => rfl
  | cons h hs ih =>
    cases he : s.entryFor h with
    | none => rw [List.filterMap_cons_none he, List.filter_cons_of_neg (by simp [he]), ih]
    | some e =>
      rw [List.filterMap_cons_some he, List.filter_cons_of_pos (by simp [he]), List.map_cons, ih, State.entryFor_handle he]

theorem Eased.tableReads (s : State) (hs : List Handle) : Eased s (hs.foldl (fun u h => (u.tableRead h).2) s) := by
  induction hs generalizing s with
  | nil => exact .refl s
  | cons h hs ih => exact (Eased.tableRead s h).trans (ih _)

/-- A claim whose base part a read finds lost is not live after it (R50). -/
theorem State.tableRead_not_live {s : State} {h : Handle} (hl : (s.claim h).state.live = true)
    (hr : (s.readBase h).1 = none) : ((s.tableRead h).2.claim h).state.live = false := by
  have hb := (ClaimState.bound_iff _).1 (ClaimState.bound_of_live hl)
  have ht : (s.claim h).state ≠ .tripped := fun e => by simp [e, ClaimState.live] at hl
  have hread : s.readBase h = (none, s) := by
    have e := State.readBase_none (s := s) (h := h) (s' := (s.readBase h).2) (by rw [← hr])
    rw [← hr]
    exact Prod.ext rfl e
  rw [State.tableRead_of_none hread, State.recordLost_of_bound hb,
    State.enterTripped_claim_self _ (by simpa using hb) (by simpa using ht)]
  rfl

/-- A claim that is live after the reads has made its entry. -/
theorem State.entryFor_of_live_after {s : State} {h : Handle} (hl : (s.readLive.claim h).state.live = true) :
    (s.entryFor h).isSome = true := by
  have hls : (s.claim h).state.live = true := ((Eased.readLive s).claims h).live hl
  have hmem : h ∈ Handle.all.filter (fun k => (s.claim k).state.live) := by simp [Handle.mem_all, hls]
  have hnodup : (Handle.all.filter (fun k => (s.claim k).state.live)).Nodup := Handle.all_nodup.filter _
  unfold State.readLive at hl
  generalize Handle.all.filter (fun k => (s.claim k).state.live) = hs at hmem hnodup hl
  induction hs generalizing s with
  | nil => cases hmem
  | cons k hs ih =>
    obtain ⟨hk, hnodup⟩ := List.nodup_cons.1 hnodup
    rw [List.foldl_cons] at hl
    have rest := Eased.tableReads (s.tableRead k).2 hs
    rcases List.mem_cons.1 hmem with rfl | hmem
    · cases hr : (s.readBase h).1 with
      | none =>
        rw [rest.not_live (State.tableRead_not_live hls hr)] at hl
        cases hl
      | some r =>
        rw [State.entryFor, if_pos hls, hr]
        rfl
    · have hne : h ≠ k := fun e => hk (e ▸ hmem)
      have entry : (s.tableRead k).2.entryFor h = s.entryFor h :=
        State.entryFor_congr (s.tableRead_claim_of_ne k h hne) (s.tableRead_recordsOf_of_ne hne)
      rw [← entry]
      exact ih (by rw [s.tableRead_claim_of_ne k h hne]; exact hls) hmem hnodup hl

/-! ### The result of a pass (R92 to R95) -/

theorem walk_handles (cut : Option Nat) (es : List SnapshotEntry) (d r : Nat) :
    (walk cut es d r).1.map (·.handle) = es.map (·.handle) := by
  induction es generalizing d r with
  | nil => rfl
  | cons e es ih => simp only [walk_cons, List.map_cons, ih]

/-- The grants of a pass are computed in grant order. -/
theorem Snapshot.compute_handles (sn : Snapshot) :
    sn.compute.grants.map (·.handle) = (grantOrder sn.entries).map (·.handle) := walk_handles _ _ _ _

/-- Before an entry stands one that is granted before it, and the order is total on different handles. -/
theorem SnapshotEntry.before_iff (a b : SnapshotEntry) :
    a.before b = true ↔ a.level < b.level ∨ (a.level = b.level
      ∧ (a.cls.rank < b.cls.rank ∨ (a.cls = b.cls ∧ a.handle < b.handle))) := by
  have rank_inj : a.cls.rank = b.cls.rank → a.cls = b.cls := by cases a.cls <;> cases b.cls <;> decide
  unfold SnapshotEntry.before
  split
  · simp only [decide_eq_true_eq]
    constructor
    · exact .inl
    · rintro (h | ⟨h, -⟩)
      · exact h
      · exact absurd h ‹_›
  · rename_i hl
    rw [not_not] at hl
    split
    · rename_i hc
      simp only [decide_eq_true_eq, hl, lt_self_iff_false, false_or, true_and]
      constructor
      · exact .inl
      · rintro (h | ⟨h, -⟩)
        · exact h
        · exact absurd h hc
    · rename_i hc
      rw [not_not] at hc
      simp [hl, hc]

theorem SnapshotEntry.before_trans {a b c : SnapshotEntry} (h : a.before b = true) (h' : b.before c = true) :
    a.before c = true := by
  rw [SnapshotEntry.before_iff] at h h' ⊢
  rcases h with h | ⟨h, h2⟩ <;> rcases h' with h' | ⟨h', h2'⟩
  · exact .inl (h.trans h')
  · exact .inl (h' ▸ h)
  · exact .inl (h ▸ h')
  · refine .inr ⟨h.trans h', ?_⟩
    rcases h2 with h2 | ⟨h2, h3⟩ <;> rcases h2' with h2' | ⟨h2', h3'⟩
    · exact .inl (h2.trans h2')
    · exact .inl (h2' ▸ h2)
    · exact .inl (h2 ▸ h2')
    · exact .inr ⟨h2.trans h2', h3.trans h3'⟩

theorem SnapshotEntry.before_total {a b : SnapshotEntry} (hne : a.handle ≠ b.handle) (h : ¬a.before b = true) :
    b.before a = true := by
  have rank_inj : a.cls.rank = b.cls.rank → a.cls = b.cls := by cases a.cls <;> cases b.cls <;> decide
  rw [SnapshotEntry.before_iff] at h ⊢
  simp only [not_or, not_and, not_lt] at h
  obtain ⟨hl, h⟩ := h
  rcases hl.lt_or_eq with hl | hl
  · exact .inl hl
  · obtain ⟨hr, hh⟩ := h hl.symm
    refine .inr ⟨hl, ?_⟩
    rcases hr.lt_or_eq with hr | hr
    · exact .inl hr
    · have hc := rank_inj hr.symm
      exact .inr ⟨hc.symm, lt_of_le_of_ne (hh hc) (Ne.symm hne)⟩

theorem insertInOrder_sorted {e : SnapshotEntry} {es : List SnapshotEntry} (hne : ∀ x ∈ es, e.handle ≠ x.handle)
    (hs : es.Pairwise (fun a b => a.before b = true)) : (insertInOrder e es).Pairwise (fun a b => a.before b = true) := by
  induction es with
  | nil => simp [insertInOrder]
  | cons x xs ih =>
    obtain ⟨hx, hxs⟩ := List.pairwise_cons.1 hs
    unfold insertInOrder
    split
    · rename_i hb
      refine List.pairwise_cons.2 ⟨fun y hy => ?_, hs⟩
      rcases List.mem_cons.1 hy with rfl | hy
      · exact hb
      · exact SnapshotEntry.before_trans hb (hx y hy)
    · rename_i hb
      refine List.pairwise_cons.2 ⟨fun y hy => ?_, ih (fun y hy => hne y (List.mem_cons_of_mem _ hy)) hxs⟩
      rcases List.mem_cons.1 ((insertInOrder_perm e xs).mem_iff.1 hy) with rfl | hy
      · exact SnapshotEntry.before_total (hne x List.mem_cons_self) hb
      · exact hx y hy

theorem grantOrder_sorted {es : List SnapshotEntry} (hn : (es.map (·.handle)).Nodup) :
    (grantOrder es).Pairwise (fun a b => a.before b = true) := by
  induction es with
  | nil => exact List.Pairwise.nil
  | cons e es ih =>
    obtain ⟨he, hn⟩ := List.nodup_cons.1 hn
    refine insertInOrder_sorted (fun x hx h => he ?_) (ih hn)
    show e.handle ∈ _
    rw [h]
    exact List.mem_map_of_mem ((grantOrder_perm es).mem_iff.1 hx)

/-- Settles O35: insertion keeps the list sorted, since the order is transitive and total on different handles. -/
theorem grantOrderIsByLevelClassAndHandle : Obligations.GrantOrderIsByLevelClassAndHandle := by
  intro sn hn place
  have rank (c : ClaimClass) : place c = c.rank := by cases c <;> rfl
  refine ⟨grantOrder_perm _, (grantOrder_sorted hn).imp fun {a b} h => ?_, sn.compute_handles, fun h c r => ⟨rfl, fun m hm => ?_⟩⟩
  · rw [rank, rank]
    exact (SnapshotEntry.before_iff a b).1 h
  · simp [snapshotEntry, hm]

end Sys2Proof.Machine

namespace Sys2Proof.Machine

/-! ### A pass started keeps the laws (R92) -/

/-- The value a checked read of a bound claim gives carries the floor its entry holds. -/
theorem RecordsLaw.read_floor {s : State} (h : RecordsLaw s) {k : Handle} (hb : (s.claim k).state ≠ .unbound)
    {r : BaseRecord} (hr : (s.readBase k).1 = some r) : (s.claim k).floorHeld = some r.floor := by
  obtain ⟨p, hp, hprimary, hshadow⟩ := h.2 k hb
  rw [State.readBase_eq hp] at hr
  cases hpg : p.primary.good with
  | true =>
    rw [Part.outcome_of_primary hpg] at hr
    cases hr
    exact hprimary
  | false =>
    cases hsg : p.shadow.good with
    | true =>
      rw [Part.outcome_of_shadow hpg hsg] at hr
      cases hr
      exact hshadow
    | false =>
      rw [Part.outcome_of_neither hpg hsg] at hr
      cases hr

theorem State.snapshot_floors_le {s : State} (hs : EntryLaws s) : s.snapshot.floors ≤ s.table.floorSum := by
  have each (h : Handle) (e : SnapshotEntry) (he : s.entryFor h = some e) : e.floor = (s.claim h).floorHeld.getD 0 := by
    unfold State.entryFor at he
    split at he
    · rename_i hl
      obtain ⟨r, hr, rfl⟩ := Option.map_eq_some_iff.1 he
      rw [hs.records.read_floor ((ClaimState.bound_iff _).1 (ClaimState.bound_of_live hl)) hr]
      rfl
    · cases he
  rw [hs.floors, State.total, Snapshot.floors, State.snapshot]
  dsimp only
  generalize Handle.all = hs'
  induction hs' with
  | nil => exact le_rfl
  | cons h hs' ih =>
    cases he : s.entryFor h with
    | none =>
      rw [List.filterMap_cons_none he]
      simp only [List.map_cons, List.sum_cons]
      omega
    | some e =>
      rw [List.filterMap_cons_some he]
      simp only [List.map_cons, List.sum_cons, each h e he]
      omega

theorem State.snapshot_handles_nodup (s : State) : (s.snapshot.entries.map (·.handle)).Nodup := by
  rw [State.snapshot, State.entries_handles]
  exact Handle.all_nodup.filter _

theorem Snapshot.compute_handles_perm (sn : Snapshot) :
    (sn.compute.grants.map (·.handle)).Perm (sn.entries.map (·.handle)) := by
  rw [Snapshot.compute_handles]
  exact (grantOrder_perm _).map _

/-- Without a NORMAL supply no claim is live, and a snapshot has no entries. -/
theorem State.snapshot_of_not_normal {s : State} (hs : StandingLaw s) (hn : s.table.standing.state ≠ .normal) :
    s.snapshot.entries = [] := by
  obtain ⟨-, -, -, hlive, -⟩ := hs
  exact List.filterMap_eq_nil_iff.2 fun h _ => State.entryFor_of_not_live (hlive hn h)

/-- The drive grants of a pass lie within the budget of its snapshot, since the floors do (R92). -/
theorem State.snapshot_drive_le {s : State} (hs : Sound s) :
    (s.snapshot.compute.grants.map (·.drive)).sum ≤ s.snapshot.budgets.drive := by
  by_cases hn : s.table.standing.state = .normal
  · have floors : s.snapshot.floors ≤ s.snapshot.budgets.drive := calc
      s.snapshot.floors ≤ s.table.floorSum := State.snapshot_floors_le hs.base.entries
      _ ≤ s.table.g := hs.base.covered
      _ ≤ s.table.budgets.drive := hs.budgets.1 hn
    have := s.snapshot.compute_drive_sum floors
    omega
  · rw [Snapshot.compute_of_empty _ (State.snapshot_of_not_normal hs.base.standing hn)]
    exact Nat.zero_le _

theorem State.startPass_sound {s : State} (hs : Sound s) : Sound s.startPass := by
  have he := Eased.readLive s
  obtain ⟨⟨hentries, hport, hcovered, hpart, hstanding, -, hgrants⟩, hbudgets⟩ := he.sound hs
  rw [State.startPass_eq]
  refine ⟨⟨hentries.congr rfl rfl rfl rfl rfl rfl rfl rfl, hport, hcovered, hpart, hstanding, fun p hp => ?_, hgrants⟩, hbudgets⟩
  have e : s.snapshot.compute = p := Option.some.inj hp
  subst e
  refine ⟨s.snapshot.compute_handles_perm.nodup_iff.2 s.snapshot_handles_nodup, fun h hl => ?_, State.snapshot_drive_le hs, ?_,
    fun _ => ?_⟩
  · rw [s.snapshot.compute_handles_perm.mem_iff, State.snapshot, State.entries_handles]
    exact List.mem_filter.2 ⟨Handle.mem_all h, State.entryFor_of_live_after hl⟩
  · have := s.snapshot.compute_ret_sum
    show _ ≤ s.snapshot.budgets.ret
    omega
  · show s.table.budgets.drive ≤ s.readLive.table.budgets.drive ∧ s.table.budgets.ret ≤ s.readLive.table.budgets.ret
    rw [he.table]
    exact ⟨le_rfl, le_rfl⟩

theorem State.startPass_flags (s : State) : s.startPass.passes.FlagsLaw := by
  rw [State.startPass_eq]
  exact ⟨nofun, nofun⟩

/-! ### A pass completed keeps the laws (R96) -/

theorem publishLine_claim (s : State) (l : GrantLine) (h : Handle) : (publishLine s l).claim h
    = if h = l.handle ∧ (s.claim h).state.live = true then
      { s.claim h with driveGrant := l.drive, returnGrant := l.ret } else s.claim h := by
  unfold publishLine
  dsimp only
  split
  · rename_i hl
    rw [State.claim_setClaim]
    by_cases hk : h = l.handle
    · subst hk; rw [if_pos rfl, if_pos ⟨rfl, hl⟩]
    · rw [if_neg hk, if_neg fun e => hk e.1]
  · rename_i hl
    rw [if_neg]
    rintro ⟨rfl, e⟩
    exact hl e

theorem publishLines_claim_of_not_mem (ls : List GrantLine) (s : State) (h : Handle)
    (hn : (s.claim h).state.live = false ∨ h ∉ ls.map (·.handle)) : (ls.foldl publishLine s).claim h = s.claim h := by
  induction ls generalizing s with
  | nil => rfl
  | cons l ls ih =>
    have first : (publishLine s l).claim h = s.claim h := by
      rw [publishLine_claim, if_neg]
      rintro ⟨rfl, hl⟩
      rcases hn with hn | hn
      · rw [hn] at hl; cases hl
      · exact hn List.mem_cons_self
    rw [List.foldl_cons, ih _ ?_, first]
    rw [first]
    exact hn.imp id fun hn hm => hn (List.mem_cons_of_mem _ hm)

/-- Each line of a result reaches its claim when that is still live (R96). -/
theorem publishLines_claim_of_mem (ls : List GrantLine) (hnodup : (ls.map (·.handle)).Nodup) (s : State) {g : GrantLine}
    (hg : g ∈ ls) (hl : (s.claim g.handle).state.live = true) :
    (ls.foldl publishLine s).claim g.handle = { s.claim g.handle with driveGrant := g.drive, returnGrant := g.ret } := by
  induction ls generalizing s with
  | nil => cases hg
  | cons l ls ih =>
    obtain ⟨hh, hnodup⟩ := List.nodup_cons.1 hnodup
    rw [List.foldl_cons]
    rcases List.mem_cons.1 hg with rfl | hg
    · rw [publishLines_claim_of_not_mem ls _ _ (.inr hh), publishLine_claim, if_pos ⟨rfl, hl⟩]
    · have hne : g.handle ≠ l.handle := fun e => hh (List.mem_map.2 ⟨g, hg, e⟩)
      have first : (publishLine s l).claim g.handle = s.claim g.handle := by
        rw [publishLine_claim, if_neg fun e => hne e.1]
      rw [ih hnodup _ hg (by rw [first]; exact hl), first]

@[simp] theorem State.claim_publish (s : State) (p : Pass) (h : Handle) :
    (s.publish p).claim h = (p.grants.foldl publishLine s).claim h := rfl

/-- Figures that each come from a line of their own, or are 0, add up to no more than the lines. -/
theorem sum_le_of_lines (ls : List GrantLine) (f : GrantLine → Nat) (F : Handle → Nat)
    (hF : ∀ h, F h = 0 ∨ ∃ l ∈ ls, l.handle = h ∧ F h = f l) : ∑ h, F h ≤ (ls.map f).sum := by
  have share (h : Handle) : F h ≤ (ls.map fun l => if l.handle = h then f l else 0).sum := by
    rcases hF h with e | ⟨l, hl, hh, e⟩
    · rw [e]; exact Nat.zero_le _
    · rw [e]
      refine List.single_le_sum (fun _ _ => Nat.zero_le _) _ (List.mem_map.2 ⟨l, hl, if_pos hh⟩)
  calc ∑ h, F h
    _ ≤ ∑ h, (ls.map fun l => if l.handle = h then f l else 0).sum := Finset.sum_le_sum fun h _ => share h
    _ = (ls.map f).sum := by
      clear hF share
      induction ls with
      | nil => simp
      | cons l ls ih => simp [Finset.sum_add_distrib, ih]

theorem Stands.publish {s : State} {p : Pass} (hn : (p.grants.map (·.handle)).Nodup) : Stands s (s.publish p) where
  claims h := by
    rw [State.claim_publish]
    by_cases hm : h ∈ p.grants.map (·.handle)
    · obtain ⟨g, hg, rfl⟩ := List.mem_map.1 hm
      cases hl : (s.claim g.handle).state.live with
      | true =>
        rw [publishLines_claim_of_mem _ hn s hg hl]
        exact ⟨g.drive, g.ret, rfl, fun e => by simp [hl] at e⟩
      | false =>
        rw [publishLines_claim_of_not_mem _ s _ (.inl hl)]
        exact .refl _
    · rw [publishLines_claim_of_not_mem _ s h (.inr hm)]
      exact .refl _
  channels := by simp
  reports := by simp
  inputs := by simp
  safeOff := by simp
  floorSum := by simp
  records := by simp
  cells := by simp

theorem State.publish_grants {s : State} (hc : ClaimLaw s) {p : Pass} (hn : (p.grants.map (·.handle)).Nodup)
    (hall : ∀ h, (s.claim h).state.live = true → h ∈ p.grants.map (·.handle)) :
    (s.publish p).total (·.driveGrant) ≤ (p.grants.map (·.drive)).sum
      ∧ (s.publish p).total (·.returnGrant) ≤ (p.grants.map (·.ret)).sum := by
  have line (h : Handle) : (((s.publish p).claim h).driveGrant = 0 ∧ ((s.publish p).claim h).returnGrant = 0)
      ∨ ∃ l ∈ p.grants, l.handle = h ∧ ((s.publish p).claim h).driveGrant = l.drive
        ∧ ((s.publish p).claim h).returnGrant = l.ret := by
    rw [State.claim_publish]
    cases hl : (s.claim h).state.live with
    | true =>
      obtain ⟨g, hg, rfl⟩ := List.mem_map.1 (hall h hl)
      rw [publishLines_claim_of_mem _ hn s hg hl]
      exact .inr ⟨g, hg, rfl, rfl, rfl⟩
    | false =>
      rw [publishLines_claim_of_not_mem _ s h (.inl hl)]
      obtain ⟨-, -, -, -, -, -, -, hzero⟩ := hc h
      exact .inl (hzero hl)
  rw [State.total_eq_sum, State.total_eq_sum]
  exact ⟨sum_le_of_lines _ _ _ fun h => (line h).imp And.left fun ⟨l, hl, hh, hd, _⟩ => ⟨l, hl, hh, hd⟩,
    sum_le_of_lines _ _ _ fun h => (line h).imp And.right fun ⟨l, hl, hh, _, hr⟩ => ⟨l, hl, hh, hr⟩⟩

theorem State.completed_sound {s : State} (hs : Sound s) {p : Pass} (hp : s.passes.inFlight = some p) :
    Sound (s.completed p) := by
  obtain ⟨⟨hentries, hport, hcovered, hpart, hstanding, hfits, hgrants⟩, hbudgets⟩ := hs
  obtain ⟨hnodup, hall, hd, hr, hfit⟩ := hfits p hp
  unfold State.completed
  dsimp only
  split
  · exact ⟨⟨hentries.congr rfl rfl rfl rfl rfl rfl rfl rfl, hport, hcovered, hpart, hstanding, nofun, hgrants⟩, hbudgets⟩
  · rename_i hv
    have st := Stands.publish (s := s) hnodup
    obtain ⟨hdrive, hret⟩ := hfit (by simpa using hv)
    obtain ⟨gd, gr⟩ := State.publish_grants hentries.claims hnodup hall
    have table : (s.publish p).table = s.table := by simp
    have monitor : (s.publish p).monitor = s.monitor := by simp
    have link : (s.publish p).link = s.link := by simp
    obtain ⟨h1, h2, h3, h4, h5⟩ := hstanding
    refine ⟨⟨(st.entryLaws hentries).congr rfl rfl rfl rfl rfl rfl rfl rfl, ?_, ?_, ⟨?_, fun hu => ?_⟩, ⟨?_, ?_, ?_, ?_, ?_⟩, nofun,
      ?_⟩, ?_⟩
    · show (s.publish p).link.Law
      rw [link]; exact hport
    · show (s.publish p).table.floorSum ≤ (s.publish p).table.g
      rw [table]; exact hcovered
    · show (s.publish p).table.partState = .ready → _
      rw [table]; exact hpart.1
    · have hu' : s.table.partState = .unconfigured := by rw [← table]; exact hu
      obtain ⟨a, b, c, d, e, f, g⟩ := hpart.2 hu'
      rw [table, link, monitor]
      exact ⟨a, b, c, d, e, f, fun k => (st.claims k).unbound (g k)⟩
    · rw [table, monitor]; exact h1
    · rw [table, monitor]; exact h2
    · rw [table]; exact h3
    · rw [table]; exact fun hn k => (st.live_iff k).trans (h4 hn k)
    · rw [table]; exact h5
    · show (s.publish p).total (·.driveGrant) ≤ (s.publish p).table.budgets.drive
        ∧ (s.publish p).total (·.returnGrant) ≤ (s.publish p).table.budgets.ret
      rw [table]
      exact ⟨(gd.trans hd).trans hdrive, (gr.trans hr).trans hret⟩
    · rw [table]; exact hbudgets

/-! ### The table's own steps keep the laws -/

/-- A part with a request waiting is READY (R177). -/
theorem PartLaw.ready_of_next {s : State} (h : PartLaw s) {r : Request} {l : LinkPort} (hn : s.link.next = some (r, l)) :
    s.table.partState = .ready := by
  cases hp : s.table.partState with
  | ready => rfl
  | unconfigured =>
    obtain ⟨-, hu, hnm, -⟩ := h.2 hp
    rw [(LinkPort.next_eq_none s.link).2 ⟨hu, hnm⟩] at hn
    cases hn

theorem State.actOn_sound {s : State} (hs : Sound s) (hidle : s.passes.inFlight = none)
    (hready : s.table.partState = .ready) {r : Request} (hr : r.body.Admissible) : Sound (s.actOn r) := by
  unfold State.actOn
  split
  · rename_i b hb
    rw [hb] at hr
    exact takeBind_sound hs hidle hready _ hr
  · exact takeModify_sound hs _ _
  · exact takeRetire_sound hs _
  · exact takeResume_sound hs hidle _
  · exact takePush_sound hs hready _ _
  · exact takePop_sound hs hready _ _

theorem State.actOn_steady (s : State) (r : Request) : s.passes.Steady (s.actOn r).passes := by
  unfold State.actOn
  split
  · exact takeBind_steady s _ _
  · exact takeModify_steady s _ _
  · exact takeRetire_steady s _
  · exact takeResume_steady s _
  · exact takePush_steady s _ _
  · exact takePop_steady s _ _

/-- The port's state is of no concern to the other laws, but that no request waits at an UNCONFIGURED part. -/
theorem Sound.of_link {s : State} (hs : Sound s) {l : LinkPort} (hl : l.Law)
    (hq : s.table.partState = .unconfigured → l.urgent = [] ∧ l.normal = []) : Sound { s with link := l } := by
  obtain ⟨⟨hentries, -, hcovered, ⟨hready, hunconf⟩, hstanding, hfits, hgrants⟩, hbudgets⟩ := hs
  refine ⟨⟨hentries.congr rfl rfl rfl rfl rfl rfl rfl rfl, hl, hcovered, ⟨hready, fun hp => ?_⟩, hstanding, hfits, hgrants⟩,
    hbudgets⟩
  obtain ⟨a, -, -, d⟩ := hunconf hp
  exact ⟨a, (hq hp).1, (hq hp).2, d⟩

/-- The queues of an UNCONFIGURED part are empty. -/
theorem PartLaw.queues {s : State} (h : PartLaw s) (hp : s.table.partState = .unconfigured) :
    s.link.urgent = [] ∧ s.link.normal = [] := by
  obtain ⟨-, hu, hn, -⟩ := h.2 hp
  exact ⟨hu, hn⟩

theorem State.takeNext_sound {s : State} (hs : Sound s) (hidle : s.passes.inFlight = none) : Sound s.takeNext := by
  cases hn : s.link.next with
  | none => rwa [State.takeNext, hn]
  | some x =>
    obtain ⟨r, l⟩ := x
    have hready := hs.base.part.ready_of_next hn
    have hport : s.link.Law := hs.base.port
    have hr : r.body.Admissible := by
      obtain ⟨-, -, -, -, hu, hnm, -⟩ := hport
      rcases (LinkPort.next_eq_some _ _ _).1 hn with ⟨rest, e, -⟩ | ⟨-, rest, e, -⟩
      · exact hu r (by rw [e]; exact List.mem_cons_self)
      · exact hnm r (by rw [e]; exact List.mem_cons_self)
    rw [State.takeNext_of_next hn]
    have left : Sound { s with link := l } :=
      hs.of_link (hport.next hn) fun hp => by rw [hready] at hp; cases hp
    exact State.actOn_sound left hidle hready hr

theorem State.takeNext_steady (s : State) : s.passes.Steady s.takeNext.passes := by
  cases hn : s.link.next with
  | none => rw [State.takeNext, hn]; exact .refl _
  | some x =>
    rw [State.takeNext_of_next hn]
    exact State.actOn_steady { s with link := x.2 } x.1

theorem State.takeNext_laws {s : State} (h : Laws s) (hidle : s.passes.inFlight = none) : Laws s.takeNext := by
  rw [laws_iff] at h ⊢
  exact ⟨State.takeNext_sound h.1 hidle, s.takeNext_steady.flagsLaw h.2⟩

theorem State.startPass_laws {s : State} (h : Sound s) : Laws s.startPass :=
  (laws_iff _).2 ⟨State.startPass_sound h, s.startPass_flags⟩

theorem Laws.sound {s : State} (h : Laws s) : Sound s := ((laws_iff s).1 h).1

theorem State.tableIdle_inFlight {s : State} (h : s.tableIdle = true) : s.passes.inFlight = none := by
  simpa [State.tableIdle] using (Bool.and_eq_true_iff.1 h).1

theorem State.settleWith_laws (n : Nat) {s : State} (h : Laws s) : Laws (State.settleWith n s) := by
  induction n generalizing s with
  | zero =>
    unfold State.settleWith
    split
    · exact State.startPass_laws h.sound
    · exact h
  | succ n ih =>
    unfold State.settleWith
    split
    · exact State.startPass_laws h.sound
    · split
      · rename_i hi
        split
        · exact h
        · exact ih (State.takeNext_laws h (State.tableIdle_inFlight hi))
      · exact h

theorem State.settle_laws {s : State} (h : Laws s) : Laws s.settle := State.settleWith_laws _ h

theorem State.takeIfDue_laws {s : State} (h : Laws s) (v : Verb) : Laws (s.takeIfDue v) := by
  unfold State.takeIfDue
  split
  · exact h
  · split
    · rename_i hi
      exact State.takeNext_laws h (State.tableIdle_inFlight hi.1)
    · exact h

/-- A completion: what the flags lack when the completed pass was void, or called again, the new pass sets anew (R104). -/
theorem State.completePass_laws {s : State} (h : Laws s) {p : Pass} (hp : s.passes.inFlight = some p) :
    Laws (s.completePass p) := by
  have idle : (s.completed p).passes.inFlight = none := rfl
  have taken := State.takeNext_sound (State.completed_sound h.sound hp) idle
  rw [State.completePass_eq]
  split
  · exact State.startPass_laws taken
  · rename_i hagain
    simp only [Bool.or_eq_true, not_or, Bool.not_eq_true] at hagain
    obtain ⟨⟨hv, hr⟩, -⟩ := hagain
    have flags : (s.completed p).passes.FlagsLaw := by
      refine ⟨fun _ => rfl, fun _ => ?_⟩
      unfold State.completed
      rw [if_neg (by simp [hv])]
      simp [State.publish, hv, hr]
    exact (laws_iff _).2 ⟨taken, (s.completed p).takeNext_steady.flagsLaw flags⟩

end Sys2Proof.Machine

namespace Sys2Proof.Machine

/-! ### Frames keep the laws -/

theorem State.refuseEntries_sound {s : State} (hs : Sound s) (k : Nat) : Sound (s.refuseEntries k) :=
  hs.of_link (State.refuseEntries_law hs.base.port k) hs.base.part.queues

theorem cycleAtTable_sound {s : State} (hs : Sound s) (es : List CycleEntry) :
    Sound (cycleAtTable s es) ∧ s.passes.Steady (cycleAtTable s es).passes := by
  unfold cycleAtTable
  induction es generalizing s with
  | nil => exact ⟨hs, .refl _⟩
  | cons e es ih =>
    have first : Sound (cycleEntry s e) ∧ s.passes.Steady (cycleEntry s e).passes := by
      unfold cycleEntry
      split
      · have he := Eased.applyDemand ‹_› e.fields
        exact ⟨he.sound hs, he.steady⟩
      · exact ⟨State.refuseEntries_sound hs 1, .refl _⟩
    obtain ⟨hsound, hsteady⟩ := ih first.1
    exact ⟨hsound, first.2.trans hsteady⟩

theorem actOnCommand_sound {s : State} (hs : Sound s) {c : Command} (hc : c.Admissible)
    (hpart : s.table.partState = .unconfigured → c.verb.takenUnconfigured = true) :
    Sound (actOnCommand s c).state ∧ s.passes.Steady (actOnCommand s c).state.passes := by
  have port : (actOnCommand s c).state.link.Law := actOnCommand_law hs.base.port hc
  cases c with
  | demand h d => exact ⟨(Eased.demandAtTable s h d).sound hs, (Eased.demandAtTable s h d).steady⟩
  | cycle es => exact cycleAtTable_sound hs es
  | stop scope => exact ⟨(Eased.brakeAll s _).sound hs, (Eased.brakeAll s _).steady⟩
  | lookup h clear => exact ⟨(Eased.lookupAtTable s h clear).sound hs, (Eased.lookupAtTable s h clear).steady⟩
  | status => exact statusTags_sound hs
  | readNotice =>
    simp only [actOnCommand, readNoticeAtPort] at port ⊢
    split at port
    · exact ⟨hs, .refl _⟩
    · exact ⟨hs.of_link port hs.base.part.queues, .refl _⟩
  | configure f => exact configurePart_sound hs hc
  | resetLink => exact ⟨hs.of_link port fun _ => ⟨rfl, rfl⟩, .refl _⟩
  | structural urgent r =>
    have ready : s.table.partState ≠ .unconfigured := fun hp => by
      have taken := hpart hp
      simp only [Command.verb] at taken
      cases hb : r.body <;> rw [hb] at taken <;> cases taken
    simp only [actOnCommand, admitRequest] at port ⊢
    split at port
    · rename_i hfull
      rw [if_pos hfull]
      exact ⟨hs.of_link port fun hp => absurd hp ready, .refl _⟩
    · rename_i hfull
      rw [if_neg hfull]
      exact ⟨hs.of_link port fun hp => absurd hp ready, .refl _⟩

/-- A frame taken on a settled part. -/
theorem actOnVerdict_laws {s : State} (h : Laws s) (f : PortFrame) (hport : (actOnVerdict s (judge f s)).link.Law) :
    Laws (actOnVerdict s (judge f s)) := by
  have of_link {l : LinkPort} (hl : l.Law) (hu : l.urgent = s.link.urgent) (hn : l.normal = s.link.normal) :
      Laws { s with link := l } := by
    obtain ⟨hs, hf⟩ := (laws_iff s).1 h
    refine (laws_iff _).2 ⟨hs.of_link hl fun hp => ?_, hf⟩
    rw [hu, hn]
    exact hs.base.part.queues hp
  cases hj : judge f s with
  | lost => exact h
  | passed hd c =>
    rw [hj] at hport
    obtain ⟨hadm, hpart⟩ := judge_passed hj
    obtain ⟨hs, hf⟩ := (laws_iff s).1 h
    obtain ⟨hsound, hsteady⟩ := actOnCommand_sound hs hadm hpart
    refine (laws_iff _).2 ⟨hsound.of_link hport ?_, hsteady.flagsLaw hf⟩
    exact hsound.base.part.queues
  | reply | headerBad | otherStation _ | checkBad _ | formatBad _ | illegal _ _ | unconfigured _ _ =>
    rw [hj] at hport
    exact of_link hport rfl rfl

theorem State.takeFrame_laws {s : State} (h : Laws s) (f : PortFrame) : Laws (s.takeFrame f) :=
  actOnVerdict_laws (State.settle_laws h) f (State.takeFrame_law h.port f)

/-! ### The safe-off input (R49, R154 to R157) -/

theorem State.enterTripped_state (s : State) (h : Handle) (r : TripReason) :
    ((s.enterTripped h r).claim h).state = .unbound ∨ ((s.enterTripped h r).claim h).state = .tripped := by
  by_cases hm : (s.claim h).state ≠ .unbound ∧ (s.claim h).state ≠ .tripped
  · rw [State.enterTripped_claim_self r hm.1 hm.2]
    exact .inr rfl
  · rw [State.enterTripped_of_idle r (by tauto)]
    tauto

theorem Eased.quiet {s t : State} (he : Eased s t) {h : Handle}
    (hq : (s.claim h).state = .unbound ∨ (s.claim h).state = .tripped) :
    (t.claim h).state = .unbound ∨ (t.claim h).state = .tripped :=
  hq.imp (he.unbound_iff h).2 (he.claims h).tripped

theorem State.tripAll_quiet (s : State) (h : Handle) :
    (s.tripAll.claim h).state = .unbound ∨ (s.tripAll.claim h).state = .tripped := by
  have hmem := Handle.mem_all h
  unfold State.tripAll
  generalize Handle.all = hs at hmem
  induction hs generalizing s with
  | nil => cases hmem
  | cons k hs ih =>
    rw [List.foldl_cons]
    rcases List.mem_cons.1 hmem with rfl | hmem
    · have rest (u : State) : Eased u (hs.foldl (fun s h => s.enterTripped h .safeOff) u) := by
        clear ih
        induction hs generalizing u with
        | nil => exact .refl u
        | cons x hs ih' => exact (Eased.enterTripped u x .safeOff).trans (ih' (by simp) _)
      exact (rest _).quiet (s.enterTripped_state h .safeOff)
    · exact ih _ hmem

/-- Safe-off asserted: the record and the input take the level together and every bound claim trips. -/
theorem State.safeOffAsserted_laws {s : State} (h : Laws s) : Laws (s.setSafeOff true).tripAll := by
  obtain ⟨⟨⟨hentries, hport, hcovered, hpart, hstanding, hfits, hgrants⟩, hbudgets⟩, hflags⟩ := (laws_iff s).1 h
  obtain ⟨hw, -, -, hr⟩ := (channelLaw_iff s).1 hentries.channels
  have he := Eased.tripAll (s.setSafeOff true)
  have entries : EntryLaws (s.setSafeOff true).tripAll :=
    ⟨he.claimLaw hentries.claims, (channelLaw_iff _).2 ⟨he.wired (hw.congr rfl rfl), by rw [he.table, he.safeOff]; rfl,
      fun _ k => (s.setSafeOff true).tripAll_quiet k, he.reports hr⟩, he.cellsLaw hentries.cells,
      he.floorSum hentries.floors, he.recordsLaw hentries.records⟩
  refine (laws_iff _).2 ⟨⟨⟨entries, LinkPort.Law.noticed hport he.link, ?_, he.partLaw hpart, he.standingLaw hstanding,
    he.passFits hfits, he.budgetLaw hgrants⟩, ?_⟩, he.flagsLaw hflags⟩
  · rw [he.table]; exact hcovered
  · rw [he.table]; exact hbudgets

theorem State.safeOffReleased_laws {s : State} (h : Laws s) : Laws (s.setSafeOff false) := by
  obtain ⟨⟨⟨⟨hclaims, hchannels, hcells, hfloors, hrecords⟩, hport, hcovered, hpart, hstanding, hfits, hgrants⟩, hbudgets⟩,
    hflags⟩ := (laws_iff s).1 h
  obtain ⟨hw, -, -, hr⟩ := (channelLaw_iff s).1 hchannels
  exact (laws_iff _).2 ⟨⟨⟨⟨hclaims, (channelLaw_iff _).2 ⟨hw.congr rfl rfl, rfl, nofun, hr⟩, hcells, hfloors, hrecords⟩,
    hport, hcovered, hpart, hstanding, hfits, hgrants⟩, hbudgets⟩, hflags⟩

/-! ### Power-on reset -/

/-- The queue of commands is outside the part. -/
theorem Laws.of_pending {s : State} (h : Laws s) (cs : List Instr) : Laws { s with pending := cs } :=
  ⟨h.port, h.claims, h.channels, h.ledger, h.supply, h.passes, h.budgets⟩

theorem State.afterReset_claim (straps : BitVec 2) (inputs : Inputs) (h : Handle) :
    (State.afterReset straps inputs).claim h = Claim.unbound := by
  simp [State.claim, State.afterReset, Vector.get]

theorem State.afterReset_channel (straps : BitVec 2) (inputs : Inputs) (st : Stage) :
    (State.afterReset straps inputs).channel st = Channel.initial := by
  simp [State.channel, State.afterReset, Vector.get]

theorem State.afterReset_recordsOf (straps : BitVec 2) (inputs : Inputs) (h : Handle) :
    (State.afterReset straps inputs).recordsOf h = ClaimRecords.none := by
  simp [State.recordsOf, State.afterReset, Vector.get]

theorem State.afterReset_laws (straps : BitVec 2) (inputs : Inputs) : Laws (State.afterReset straps inputs) := by
  have claim := State.afterReset_claim straps inputs
  have channel := State.afterReset_channel straps inputs
  have nothing (f : Claim → Nat) (hf : f Claim.unbound = 0) : (State.afterReset straps inputs).total f = 0 := by
    rw [State.total_eq_sum]
    exact Finset.sum_eq_zero fun k _ => by rw [claim, hf]
  have entries : EntryLaws (State.afterReset straps inputs) := by
    refine ⟨fun h => by rw [claim]; exact Claim.unbound_law, (channelLaw_iff _).2 ⟨⟨fun h st role => ?_, fun st => ?_,
      fun st => ?_, fun st => ?_⟩, rfl, fun _ h => .inl (by rw [claim]; rfl), nofun⟩, ?_, ?_, fun h _ =>
      State.afterReset_recordsOf straps inputs h, fun h hb => absurd (by rw [claim]; rfl) hb⟩
    · rw [claim, channel]
      exact ⟨fun ⟨_, hm, _⟩ => absurd hm nofun, nofun⟩
    · rw [channel, State.ownerState_of_none (by rw [channel]; rfl)]; rfl
    · rw [channel, State.ownerState_of_none (by rw [channel]; rfl)]; rfl
    · rw [channel]; exact fun _ => rfl
    · rw [CellsLaw, nothing _ rfl]; rfl
    · rw [nothing _ rfl]; rfl
  have port : (State.afterReset straps inputs).link.Law := by simp [LinkPort.Law, State.afterReset, LinkPort.initial]
  refine (laws_iff _).2 ⟨⟨⟨entries, port, le_rfl, ⟨nofun, fun _ => ⟨rfl, rfl, rfl, rfl, rfl, rfl, claim⟩⟩,
    ⟨rfl, rfl, nofun, fun _ h => by rw [claim]; rfl, nofun⟩, nofun, ?_⟩, nofun, fun _ => ⟨rfl, rfl⟩⟩, nofun, fun _ => ⟨rfl, rfl⟩⟩
  rw [BudgetLaw, nothing _ rfl, nothing _ rfl]
  exact ⟨le_rfl, le_rfl⟩

/-- Settles O54. -/
theorem lawsHoldAfterReset : Obligations.LawsHoldAfterReset := by
  refine ⟨State.afterReset_laws _ _, fun levels s t ht => ?_⟩
  cases ht
  exact (State.afterReset_laws _ _).of_pending s.pending

/-! ### Every step keeps the laws -/

theorem takeFirst_subset {st : Stage} {p : ReportKind → Bool} {rs rest : List Report} {r : Report}
    (h : takeFirst st p rs = some (r, rest)) : ∀ x ∈ rest, x ∈ rs := by
  obtain ⟨before, behind, rfl, rfl, -⟩ := (takeFirst_eq_some st p rs rest r).1 h
  intro x hx
  simp only [List.mem_append, List.mem_cons] at hx ⊢
  exact hx.imp id .inr

theorem exec_laws {c : Instr} {s t : State} (h : Laws s) (ht : exec c s = .next t) : Laws t := by
  have hs := State.settle_laws h
  have verb (v : Verb) (f : Frame) (ht : exec (v.instr f) s = .next t) : Laws t := by
    rw [exec_instr] at ht
    cases ht
    exact State.takeFrame_laws h _
  have sound {u : State} (hu : Sound u) (hp : s.settle.passes.Steady u.passes) : Laws u :=
    (laws_iff u).2 ⟨hu, hp.flagsLaw ((laws_iff _).1 hs).2⟩
  cases c with
  | powerOnReset levels => exact lawsHoldAfterReset.2 levels s t ht
  | demand f => exact verb .demand f ht
  | cycle f => exact verb .cycle f ht
  | stop f => exact verb .stop f ht
  | lookup f => exact verb .lookup f ht
  | status f => exact verb .status f ht
  | readNotice f => exact verb .readNotice f ht
  | configure f => exact verb .configure f ht
  | resetLink f => exact verb .resetLink f ht
  | bind f => exact verb .bind f ht
  | modify f => exact verb .modify f ht
  | retire f => exact verb .retire f ht
  | resume f => exact verb .resume f ht
  | push f => exact verb .push f ht
  | pop f => exact verb .pop f ht
  | headerError f | passedOverFrame f => cases ht; exact State.takeFrame_laws h _
  | unknownVerb code f => cases ht; exact State.takeFrame_laws h _
  | bindTaken | modifyTaken | retireTaken | resumeTaken | pushTaken | popTaken =>
    cases ht; exact State.takeIfDue_laws h _
  | passStart =>
    cases ht
    split
    · exact State.startPass_laws h.sound
    · exact h
  | passCompletion =>
    simp only [exec, execPassCompletion] at ht
    split at ht
    · cases ht; exact hs
    · cases ht; exact State.completePass_laws hs ‹_›
  | refreshTimerExpiry k =>
    simp only [exec, execRefreshTimerExpiry] at ht
    split at ht
    · rename_i hk; cases ht; exact (Eased.enterStale hk.1).laws hs
    · cases ht; exact hs
  | brakeTimerExpiry k =>
    simp only [exec, execBrakeTimerExpiry] at ht
    split at ht
    · rename_i hk; cases ht; exact (Eased.enterHalted hk.1).laws hs
    · cases ht; exact hs
  | regulationExpiry st x y => cases ht; exact (Eased.expire _ st x y).laws hs
  | tripReport st =>
    simp only [exec, execTripReport] at ht
    split at ht
    · cases ht; exact hs
    · rename_i r rest hr
      cases ht
      refine (Eased.trans (Eased.dropReports fun x hx => ?_) (Eased.takeTrip _ r)).laws hs
      exact takeFirst_subset hr x hx
  | releaseCompletion st =>
    simp only [exec, execReleaseCompletion] at ht
    split at ht
    · cases ht; exact hs
    · rename_i r rest hr
      have dropped : Laws { s.settle with reports := rest } := (Eased.dropReports fun x hx => takeFirst_subset hr x hx).laws hs
      split at ht
      · rename_i hk
        cases ht
        have freed := State.freeClaim_sound dropped.sound (h := r.handle) (by rw [hk.1]; nofun)
        exact sound freed (State.freeClaim_steady { s.settle with reports := rest } r.handle)
      · cases ht; exact dropped
  | stageFaultAsserted st =>
    cases ht
    split
    · exact hs
    · exact (Eased.stageFaultRises _ st).laws hs
  | stageFaultReleased st => cases ht; exact (Eased.setStageFault _ st false).laws hs
  | safeOffAsserted =>
    cases ht
    split
    · exact hs
    · exact State.safeOffAsserted_laws hs
  | safeOffReleased => cases ht; exact State.safeOffReleased_laws hs
  | supplyFrame chars =>
    simp only [exec, execSupplyFrame] at ht
    split at ht
    · cases ht
      exact sound (hs.sound.of_monitor rfl rfl fun hp => (hs.sound.base.part.2 hp).2.2.2.1) (.of_eq rfl)
    · cases ht
      exact sound (State.goodSupplyFrame_sound hs.sound _) (State.goodSupplyFrame_steady _ _)
  | supplyTimeoutExpiry =>
    simp only [exec, execSupplyTimeoutExpiry] at ht
    split at ht
    · cases ht; exact hs
    · rename_i n hn
      cases ht
      exact sound (State.supplyTimesOut_sound hs.sound (by rw [hn]; nofun)) (State.supplyTimesOut_steady _)
  | cellUpset target copy =>
    cases ht
    cases target with
    | base k => exact (Eased.upset_records _ k copy).1.laws hs
    | optional k => exact (Eased.upset_records _ k copy).2.laws hs
    | envelope depth =>
      have r := EnvelopeReads.upset s.settle depth copy
      exact sound (r.sound hs.sound) (.of_eq r.passes)
    | freeCell => exact hs

theorem step_laws {s t : State} (h : Laws s) (ht : step s = .next t) : Laws t := by
  rcases step_eq_next ht with rfl | ⟨c, rest, hc⟩
  · exact State.settle_laws h
  · exact exec_laws (h.of_pending rest) hc

/-- Settles O56. -/
theorem everyStepKeepsEntriesTrueToTheirState : Obligations.EveryStepKeepsEntriesTrueToTheirState :=
  fun _ _ h ht => (step_laws h ht).claims

/-- Settles O57. -/
theorem everyStepKeepsChannelsTrueToTheirClaims : Obligations.EveryStepKeepsChannelsTrueToTheirClaims :=
  fun _ _ h ht => (step_laws h ht).channels

/-- Settles O58. -/
theorem everyStepKeepsCellsAndFloorsAccounted : Obligations.EveryStepKeepsCellsAndFloorsAccounted :=
  fun _ _ h ht => (step_laws h ht).ledger

/-- Settles O59. -/
theorem everyStepKeepsSupplyAndPassesConsistent : Obligations.EveryStepKeepsSupplyAndPassesConsistent :=
  fun _ _ h ht => ⟨(step_laws h ht).supply, (step_laws h ht).passes⟩

/-- Settles O60. -/
theorem everyStepKeepsGrantsWithinTheBudgets : Obligations.EveryStepKeepsGrantsWithinTheBudgets :=
  fun _ _ h ht => (step_laws h ht).budgets

end Sys2Proof.Machine

namespace Sys2Proof.Machine

/-! ### Every command answers -/

theorem actOnCommand_pending (s : State) (c : Command) : (actOnCommand s c).state.pending = s.pending := by
  cases c with
  | demand h d =>
    simp only [actOnCommand, demandAtTable]
    split <;> simp
  | cycle es => exact cycleAtTable_pending s es
  | stop scope => exact State.brakeAll_pending s _
  | lookup h clear =>
    have e : (lookupRead s h).2.pending = s.pending := by
      unfold lookupRead
      split <;> simp
    simp only [actOnCommand, lookupAtTable]
    split
    · rfl
    · dsimp only
      split <;> simp [e]
  | status => exact statusReads_pending s [] _
  | readNotice =>
    simp only [actOnCommand, readNoticeAtPort]
    split <;> rfl
  | configure f =>
    simp only [actOnCommand, configurePart]
    split <;> simp
  | resetLink => rfl
  | structural urgent r =>
    simp only [actOnCommand, admitRequest]
    split <;> rfl

theorem State.takeFrame_pending (s : State) (f : PortFrame) : (s.takeFrame f).pending = s.pending := by
  have e := s.settle_pending
  unfold State.takeFrame
  dsimp only
  cases judge f s.settle with
  | passed hd c => exact (actOnCommand_pending s.settle c).trans e
  | lost | reply | headerBad | otherStation _ | checkBad _ | formatBad _ | illegal _ _ | unconfigured _ _ => exact e

theorem State.takeIfDue_pending (s : State) (v : Verb) : (s.takeIfDue v).pending = s.pending := by
  unfold State.takeIfDue
  split
  · rfl
  · split
    · exact s.takeNext_pending
    · rfl

/-- Settles O2: every arm answers a next state, and no operation of the part touches the queue of commands. -/
theorem everyCommandAnswersNext : Obligations.EveryCommandAnswersNext := by
  intro c s
  have hs := s.settle_pending
  have frame (v : Verb) (f : Frame) : ∃ t, exec (v.instr f) s = .next t ∧ t.pending = s.pending :=
    ⟨_, exec_instr v f s, s.takeFrame_pending _⟩
  cases c with
  | powerOnReset levels => exact ⟨_, rfl, rfl⟩
  | demand f => exact frame .demand f
  | cycle f => exact frame .cycle f
  | stop f => exact frame .stop f
  | lookup f => exact frame .lookup f
  | status f => exact frame .status f
  | readNotice f => exact frame .readNotice f
  | configure f => exact frame .configure f
  | resetLink f => exact frame .resetLink f
  | bind f => exact frame .bind f
  | modify f => exact frame .modify f
  | retire f => exact frame .retire f
  | resume f => exact frame .resume f
  | push f => exact frame .push f
  | pop f => exact frame .pop f
  | headerError f | passedOverFrame f => exact ⟨_, rfl, s.takeFrame_pending _⟩
  | unknownVerb code f => exact ⟨_, rfl, s.takeFrame_pending _⟩
  | bindTaken | modifyTaken | retireTaken | resumeTaken | pushTaken | popTaken =>
    exact ⟨_, rfl, s.takeIfDue_pending _⟩
  | passStart => exact ⟨_, rfl, by split <;> simp⟩
  | passCompletion =>
    simp only [exec, execPassCompletion]
    split
    · exact ⟨_, rfl, hs⟩
    · exact ⟨_, rfl, by simp⟩
  | refreshTimerExpiry h =>
    simp only [exec, execRefreshTimerExpiry]
    split <;> exact ⟨_, rfl, by simp⟩
  | brakeTimerExpiry h =>
    simp only [exec, execBrakeTimerExpiry]
    split <;> exact ⟨_, rfl, by simp⟩
  | regulationExpiry st x y => exact ⟨_, rfl, by simp⟩
  | tripReport st =>
    simp only [exec, execTripReport]
    split <;> exact ⟨_, rfl, by simp⟩
  | releaseCompletion st =>
    simp only [exec, execReleaseCompletion]
    split
    · exact ⟨_, rfl, hs⟩
    · split <;> exact ⟨_, rfl, by simp⟩
  | stageFaultAsserted st =>
    refine ⟨_, rfl, ?_⟩
    split
    · exact hs
    · unfold State.stageFaultRises
      dsimp only
      split
      · simp
      · split <;> simp
  | stageFaultReleased st => exact ⟨_, rfl, by simp⟩
  | safeOffAsserted =>
    refine ⟨_, rfl, ?_⟩
    split <;> simp
  | safeOffReleased => exact ⟨_, rfl, by simp⟩
  | supplyFrame chars =>
    simp only [exec, execSupplyFrame]
    split <;> exact ⟨_, rfl, by simp⟩
  | supplyTimeoutExpiry =>
    simp only [exec, execSupplyTimeoutExpiry]
    split <;> exact ⟨_, rfl, by simp⟩
  | cellUpset target copy => exact ⟨_, rfl, by simp⟩

/-! ### Draw side and estimate (R12, R13) -/

/-- The rounding of R13: the least whole number of LU not less than the product. -/
theorem ceilThousandth_le_iff (n m : Nat) : ceilThousandth n ≤ m ↔ n ≤ 1000 * m := by
  unfold ceilThousandth
  omega

/-- Settles O11. -/
theorem drawSideAndEstimateFollowTheDemand : Obligations.DrawSideAndEstimateFollowTheDemand := by
  refine ⟨fun d sign => ?_, fun r d sign b => ?_⟩
  · cases sign <;> simp [drawSide]
  · show d.natAbs * r.coefficient (drawSide d sign) b ≤ _ ∧ ∀ n, d.natAbs * r.coefficient (drawSide d sign) b ≤ _ → _
    exact ⟨(ceilThousandth_le_iff _ _).1 le_rfl, fun n => (ceilThousandth_le_iff _ _).2⟩

/-! ### Limits and reference (R123 to R126) -/

theorem magnitudeLimit_le (r : BaseRecord) (o : Option OptionalRecord) (band : Band) :
    magnitudeLimit r o band ≤ r.currentLimit := by
  unfold magnitudeLimit
  split
  · split
    · exact Nat.min_le_left _ _
    · exact le_rfl
  · exact le_rfl
  · exact le_rfl

/-- The grant limit is the quotient rounded down (R124). -/
theorem grantLimit_of_pos {c : Nat} (hc : 0 < c) (g : Nat) : grantLimit c g = some (g * 1000 / c) := if_neg hc.ne'

theorem referenceOf_natAbs (d : Int) (limit : Nat) (dmax : Option Nat) :
    (referenceOf d limit dmax).natAbs = match dmax with
      | none => min d.natAbs limit
      | some x => min (min d.natAbs limit) x := by
  unfold referenceOf
  cases dmax <;> dsimp only <;> split <;> omega

/-- Settles O43. -/
theorem referenceIsLeastOfDemandLimitAndGrant : Obligations.ReferenceIsLeastOfDemandLimitAndGrant := by
  refine ⟨fun r start limits band => ⟨fun hb => ?_, fun x hb hx => ?_⟩, fun r band => ⟨rfl, fun _ _ _ => rfl⟩,
    magnitudeLimit_le, fun g => rfl, fun c g hc => ?_, fun d limit => ⟨referenceOf_natAbs d limit none, rfl, fun x => ?_⟩,
    fun d limit dmax => ⟨fun hd => ?_, fun hd => ?_, ?_⟩, fun d c g hc hle => ?_⟩
  · exact if_neg (by omega)
  · simp only [magnitudeLimit]
    rw [if_pos hb, List.getD_eq_getElem?_getD, hx]
    rfl
  · exact ⟨_, grantLimit_of_pos hc g, Nat.div_mul_le_self _ _, (Nat.div_lt_iff_lt_mul hc).1 (Nat.lt_succ_self _)⟩
  · exact ⟨referenceOf_natAbs d limit (some x), by simp [isShort]⟩
  · unfold referenceOf
    dsimp only
    rw [if_neg (by omega)]
    exact Int.natCast_nonneg _
  · unfold referenceOf
    dsimp only
    split
    · omega
    · have h0 : d = 0 := by omega
      subst h0
      cases dmax <;> simp
  · rw [referenceOf_natAbs]
    cases dmax <;> dsimp only <;> omega
  · refine ⟨_, grantLimit_of_pos hc g, (Nat.le_div_iff_mul_le hc).2 ?_⟩
    omega

/-! ### Power-on reset -/

/-- Settles O53. -/
theorem powerOnResetGivesEveryBlockItsInitialValue : Obligations.PowerOnResetGivesEveryBlockItsInitialValue := by
  intro levels s
  let straps := levels.straps
  let inputs := inputsAt levels
  refine ⟨_, rfl, fun h => ⟨State.afterReset_claim straps inputs h, State.afterReset_recordsOf straps inputs h⟩, rfl, rfl,
    rfl, rfl, State.afterReset_channel straps inputs, rfl, rfl, rfl, rfl, rfl, rfl, rfl, rfl, rfl, rfl, rfl, rfl, rfl, rfl, rfl, rfl, fun st => ?_, rfl⟩
  simp only [State.stageFault, State.afterReset, inputsAt, Vector.get, List.getElem_toArray, List.getElem_map,
    List.getElem_range]
  rfl

end Sys2Proof.Machine

namespace Sys2Proof.Machine

/-! ### Frames taken on a settled part -/

theorem State.takeFrame_of_settled {s : State} (hs : s.settled = true) (f : PortFrame) :
    s.takeFrame f = actOnVerdict s (judge f s) := by
  rw [State.takeFrame, State.settle_of_settled hs]

theorem exec_instr_of_settled {s : State} (hs : s.settled = true) (v : Verb) (f : Frame) :
    exec (v.instr f) s = .next (actOnVerdict s (judge (f.withCode v.code) s)) := by
  rw [exec_instr, State.takeFrame_of_settled hs]

/-! ### Frames of bare characters (R163, R164) -/

theorem ones_split_high (o : Octet) : ones o = ones (o.extractLsb' 5 3) + ones (o.extractLsb' 0 5) := by
  revert o; decide

theorem ones_split_low (o : Octet) : ones (o >>> 3) = ones (o.extractLsb' 4 4) + (o.getLsbD 3).toNat := by
  revert o; decide

theorem and_seven_toNat (o : Octet) : (o &&& 7#8).toNat = (o.extractLsb' 0 3).toNat := by
  revert o; decide

theorem upperThree_toNat (o : Octet) : o.toNat / 32 = (o.extractLsb' 5 3).toNat := by
  revert o; decide

/-- The header check of two octets is the count of the other thirteen bits modulo 8 (R163). -/
theorem Header.ofOctets_check_iff (a b : Octet) :
    (Header.ofOctets a b).check = headerCheckOf (Header.ofOctets a b).station (Header.ofOctets a b).verb
      (Header.ofOctets a b).handle (Header.ofOctets a b).urgent
      ↔ (ones a + ones (b >>> 3)) % 8 = (b &&& 7#8).toNat := by
  rw [ones_split_high, ones_split_low, and_seven_toNat, ← BitVec.toNat_inj]
  simp only [Header.ofOctets, headerCheckOf, BitVec.toNat_ofNat]
  rw [← Nat.add_assoc]
  exact eq_comm

/-- The frame the port sees of two characters or more: both octets are the header. -/
theorem RawFrame.toPort_of_header {f : RawFrame} {a b : LineChar} {rest : List LineChar}
    (hc : f.chars = a :: b :: rest) : f.toPort
      = ⟨f.gapNs, f.duringReply, some (Header.ofOctets a.octet b.octet), a.faulted || b.faulted, rest⟩ := by
  simp only [RawFrame.toPort, hc]

theorem RawFrame.badHeader_iff_of_header {f : RawFrame} {a b : LineChar} {rest : List LineChar}
    (hc : f.chars = a :: b :: rest) : f.BadHeader ↔ a.faulted = true ∨ b.faulted = true
      ∨ (ones a.octet + ones (b.octet >>> 3)) % 8 ≠ (b.octet &&& 7#8).toNat := by
  simp only [RawFrame.BadHeader, hc]

/-- A frame too short for a header is bad, and the port sees no header. -/
theorem RawFrame.badHeader_of_short {f : RawFrame} (hc : ∀ a b rest, f.chars ≠ a :: b :: rest) :
    f.BadHeader ∧ f.toPort.header = none := by
  rcases e : f.chars with _ | ⟨a, _ | ⟨b, rest⟩⟩
  · exact ⟨by simp only [RawFrame.BadHeader, e], by simp only [RawFrame.toPort, e]⟩
  · exact ⟨by simp only [RawFrame.BadHeader, e], by simp only [RawFrame.toPort, e]⟩
  · exact absurd e (hc a b rest)

theorem goodHeader_of_noHeader {p : PortFrame} (h : p.header = none) : p.goodHeader = none := by
  simp only [PortFrame.goodHeader, h]

theorem goodHeader_of_unchecked {p : PortFrame} {hd : Header} (h : p.header = some hd)
    (hbad : p.headerFaulted = true ∨ hd.check ≠ headerCheckOf hd.station hd.verb hd.handle hd.urgent) :
    p.goodHeader = none := by
  simp only [PortFrame.goodHeader, h]
  rcases hbad with e | e
  · simp only [e, Bool.not_true, Bool.false_and, Bool.false_eq_true, if_false]
  · simp only [beq_eq_false_iff_ne.2 e, Bool.and_false, Bool.false_eq_true, if_false]

theorem goodHeader_of_checked {p : PortFrame} {hd : Header} (h : p.header = some hd) (hf : p.headerFaulted = false)
    (hcheck : hd.check = headerCheckOf hd.station hd.verb hd.handle hd.urgent) : p.goodHeader = some hd := by
  simp only [PortFrame.goodHeader, h]
  exact if_pos (by rw [hf, beq_iff_eq.2 hcheck]; rfl)

theorem goodHeader_of_badHeader {f : RawFrame} (h : f.BadHeader) : f.toPort.goodHeader = none := by
  by_cases hc : ∃ a b rest, f.chars = a :: b :: rest
  · obtain ⟨a, b, rest, hc⟩ := hc
    rw [RawFrame.toPort_of_header hc]
    refine goodHeader_of_unchecked rfl ?_
    rcases (RawFrame.badHeader_iff_of_header hc).1 h with ha | hb | hcheck
    · exact .inl (Bool.or_eq_true_iff.2 (.inl ha))
    · exact .inl (Bool.or_eq_true_iff.2 (.inr hb))
    · exact .inr (fun e => hcheck ((Header.ofOctets_check_iff _ _).1 e))
  · exact goodHeader_of_noHeader (RawFrame.badHeader_of_short (fun a b rest e => hc ⟨a, b, rest, e⟩)).2

/-- The station a frame names is the station field of its header. -/
theorem RawFrame.station_of_header {f : RawFrame} {a b : LineChar} {rest : List LineChar}
    (hc : f.chars = a :: b :: rest) : f.station = (Header.ofOctets a.octet b.octet).station.toNat := by
  simp only [RawFrame.station, hc]
  exact upperThree_toNat _

/-- The header of a frame of bare characters that is not bad. -/
theorem goodHeader_of_not_badHeader {f : RawFrame} (h : ¬f.BadHeader) :
    ∃ hd, f.toPort.goodHeader = some hd ∧ hd.station.toNat = f.station := by
  by_cases hc : ∃ a b rest, f.chars = a :: b :: rest
  · obtain ⟨a, b, rest, hc⟩ := hc
    rw [RawFrame.badHeader_iff_of_header hc] at h
    simp only [not_or, not_not, Bool.not_eq_true] at h
    obtain ⟨ha, hb, hcheck⟩ := h
    refine ⟨Header.ofOctets a.octet b.octet, ?_, (RawFrame.station_of_header hc).symm⟩
    rw [RawFrame.toPort_of_header hc]
    exact goodHeader_of_checked rfl (Bool.or_eq_false_iff.2 ⟨ha, hb⟩) ((Header.ofOctets_check_iff _ _).2 hcheck)
  · exact absurd (RawFrame.badHeader_of_short (fun a b rest e => hc ⟨a, b, rest, e⟩)).1 h

theorem toPort_gap (f : RawFrame) : f.toPort.gapNs = f.gapNs ∧ f.toPort.duringReply = f.duringReply := by
  unfold RawFrame.toPort
  split <;> exact ⟨rfl, rfl⟩

/-- A frame heard while a reply is expected, within 5 µs, is taken as that reply (R162). -/
theorem judge_of_reply {s : State} {f : PortFrame} (hh : Heard s f.duringReply) (he : s.link.replyExpected = true)
    (hg : f.gapNs ≤ 5000) : judge f s = .reply := by
  unfold judge
  rw [if_neg (by simp [heard_not_deaf s _ hh]), if_pos ⟨he, hg⟩]

/-- A frame taken as a command is neither lost nor taken as a reply. -/
theorem taken_not_reply {s : State} {f : PortFrame} (h : TakenAsCommand s f.gapNs f.duringReply) :
    ¬s.link.deafTo f.duringReply = true ∧ ¬(s.link.replyExpected = true ∧ f.gapNs ≤ Config.replyWindowNs) := by
  obtain ⟨hh, hr⟩ := h
  refine ⟨by simp [heard_not_deaf s _ hh], ?_⟩
  rintro ⟨h1, h2⟩
  rcases hr with hr | hr
  · simp [hr] at h1
  · exact absurd h2 (Nat.not_le.2 hr)

theorem judge_of_headerBad {s : State} {f : PortFrame} (h : TakenAsCommand s f.gapNs f.duringReply)
    (hg : f.goodHeader = none) : judge f s = .headerBad := by
  obtain ⟨hd, hr⟩ := taken_not_reply h
  unfold judge
  rw [if_neg hd, if_neg hr]
  simp only [hg]

theorem judge_of_otherStation {s : State} {f : PortFrame} (h : TakenAsCommand s f.gapNs f.duringReply) {hd : Header}
    (hg : f.goodHeader = some hd) (ha : ¬(hd.addressed s.link.station || hd.broadcast) = true) :
    judge f s = .otherStation (decide (hd.station.toNat ≤ 3)) := by
  obtain ⟨hdeaf, hr⟩ := taken_not_reply h
  unfold judge
  rw [if_neg hdeaf, if_neg hr]
  simp only [hg]
  rw [if_neg ha]

/-- Settles O4: what the port does not take is judged before any field of it is read. -/
theorem badHeadersAndFramesForOthersHaveNoEffect : Obligations.BadHeadersAndFramesForOthersHaveNoEffect := by
  intro s hs
  have raw (f : RawFrame) {v : Verdict} (hv : judge f.toPort s = v) : s.takeFrame f.toPort = actOnVerdict s v := by
    rw [State.takeFrame_of_settled hs, hv]
  have taken (f : RawFrame) (h : TakenAsCommand s f.gapNs f.duringReply) :
      TakenAsCommand s f.toPort.gapNs f.toPort.duringReply := by
    rw [(toPort_gap f).1, (toPort_gap f).2]; exact h
  have deaf (f : RawFrame) (hd : s.link.driverOn = true) (hf : f.duringReply = true) : judge f.toPort s = .lost :=
    judge_of_deaf s _ hd (by rw [(toPort_gap f).2, hf])
  refine ⟨fun f ht hb => ?_, fun f ht hb hst h7 => ?_, fun f hh he hg => ?_, fun v f hh he hg => ?_, fun f hd hf => ?_,
    fun v f hd hf => ?_, fun code f hd hf => ?_⟩
  · exact congrArg _ (raw f (judge_of_headerBad (taken f ht) (goodHeader_of_badHeader hb)))
  · obtain ⟨hd, hgood, hstation⟩ := goodHeader_of_not_badHeader hb
    have hj : judge f.toPort s = .otherStation (decide (f.station ≤ 3)) := by
      rw [← hstation]
      refine judge_of_otherStation (taken f ht) hgood ?_
      simp only [Header.addressed, Header.broadcast, Bool.or_eq_true, beq_iff_eq, not_or]
      refine ⟨fun e => hst ?_, fun e => h7 ?_⟩
      · rw [← hstation, e]
        simp
        omega
      · rw [← hstation, e]; rfl
    exact congrArg _ (raw f hj)
  · have hj : judge f.toPort s = .reply :=
      judge_of_reply (by rw [(toPort_gap f).2]; exact hh) he (by rw [(toPort_gap f).1]; exact hg)
    exact congrArg _ (raw f hj)
  · rw [exec_instr_of_settled hs, judge_of_reply hh he hg]
    rfl
  · exact ⟨congrArg _ (raw f (deaf f hd hf)), congrArg _ (raw f (deaf f hd hf))⟩
  · rw [exec_instr_of_settled hs, judge_of_deaf s _ hd hf]
    rfl
  · have e : s.takeFrame (f.withCode code) = s := by
      rw [State.takeFrame_of_settled hs, judge_of_deaf s _ hd hf]
      rfl
    exact congrArg _ e

/-! ### The format check (R164, R167) -/

theorem classOfOctet_eq_some (o : Octet) (c : ClaimClass) : classOfOctet o = some c ↔ o = c.code := by
  constructor
  · exact fun h => (classCode_of_octet h).symm
  · rintro rfl
    cases c <;> rfl

theorem bindLengthOk_iff (p : List Octet) : bindLengthOk p = true ↔ ¬BindLengthWrong p := by
  unfold bindLengthOk BindLengthWrong
  cases p with
  | nil => simp
  | cons o rest =>
    have code (c : ClaimClass) (h : classOfOctet o = some c) := (classOfOctet_eq_some o c).1 h
    simp only [List.getElem?_cons_zero, Option.some.injEq, reduceCtorEq, false_or]
    cases hc : classOfOctet o with
    | none =>
      have ne (c : ClaimClass) : o ≠ c.code := fun e => by
        rw [(classOfOctet_eq_some o c).2 e] at hc; cases hc
      have h0 : o ≠ 0#8 := ne .axis
      have h1 : o ≠ 1#8 := ne .spindle
      have h2 : o ≠ 2#8 := ne .pair
      simp [h0, h1, h2]
    | some c =>
      obtain rfl := code c hc
      cases c with
      | axis => simp [ClaimClass.code]
      | pair => simp [ClaimClass.code]
      | spindle =>
        cases hs : (ClaimClass.spindle.code :: rest)[53]? with
        | none =>
          have hlen : rest.length + 1 ≤ 53 := List.getElem?_eq_none_iff.1 hs
          simp [ClaimClass.code]
          omega
        | some s =>
          obtain ⟨hlt, -⟩ := List.getElem?_eq_some_iff.1 hs
          have hlen : 53 ≤ rest.length := Nat.le_of_lt_succ hlt
          simp [ClaimClass.code]
          omega

/-- The length check refuses what has the wrong length for its verb (R161, R167). -/
theorem payloadLengthOk_iff (v : Verb) (p : List Octet) :
    p.length ≤ 68 ∧ payloadLengthOk v p = true ↔ ¬v.LengthWrong p := by
  have fixed {n : Nat} (hn : v.payloadOctets = some n) (hb : v ≠ .bind) (hc : v ≠ .cycle) :
      ¬v.LengthWrong p ↔ p.length ≤ 68 ∧ p.length = n := by
    simp [Verb.LengthWrong, hn, hb, hc, not_or]
  cases v with
  | bind =>
    simp [Verb.LengthWrong, Verb.payloadOctets, payloadLengthOk, bindLengthOk_iff, not_or]
  | cycle =>
    cases p with
    | nil => simp [Verb.LengthWrong, payloadLengthOk]
    | cons count rest =>
      simp [Verb.LengthWrong, Verb.payloadOctets, payloadLengthOk, not_or]
      omega
  | demand | stop | lookup | status | readNotice | configure | resetLink | modify | retire | resume | push | pop =>
    rw [fixed rfl nofun nofun]
    simp [payloadLengthOk]

theorem mannerOk_iff (v : Verb) (f : Frame) : mannerOk v (f.station == 7#3) = true ↔ ¬v.SentWrongly f := by
  cases v <;> simp [mannerOk, Verb.SentWrongly]

theorem checkedBody_length (code : BitVec 5) (f : Frame) (p : List Octet) : (checkedBody code f p).length = p.length + 2 := by
  simp [checkedBody, clean, wordOctets]

theorem formatVerb_of_checked {s : State} {v : Verb} {f : Frame} {p : List Octet} (hc : Checked s v.code f p)
    [Decidable (v.SentWrongly f ∨ v.LengthWrong p)] :
    formatVerb (f.withCode v.code) v.code (f.station == 7#3) p
      = if v.SentWrongly f ∨ v.LengthWrong p then none else some v := by
  have len : (f.withCode v.code).length = p.length + 4 := by
    show 2 + f.body.length = _
    rw [hc.2, checkedBody_length]
    omega
  have ok : ((f.withCode v.code).length ≤ Config.longestFrame ∧ mannerOk v (f.station == 7#3) = true
      ∧ payloadLengthOk v p = true) ↔ ¬(v.SentWrongly f ∨ v.LengthWrong p) := by
    rw [len, mannerOk_iff, show Config.longestFrame = 72 from rfl]
    constructor
    · rintro ⟨h1, h2, h3⟩ (hw | hw)
      · exact h2 hw
      · exact (payloadLengthOk_iff v p).1 ⟨by omega, h3⟩ hw
    · intro hw
      obtain ⟨h1, h3⟩ := (payloadLengthOk_iff v p).2 fun hl => hw (.inr hl)
      exact ⟨by omega, fun hm => hw (.inl hm), h3⟩
  unfold formatVerb
  rw [Verb.ofCode_code]
  dsimp only
  split
  · rw [if_neg (ok.1 ‹_›)]
  · rw [if_pos (not_not.1 (mt ok.2 ‹_›))]

theorem judge_of_formatBad {s : State} {v : Verb} {f : Frame} {p : List Octet} (hc : Checked s v.code f p)
    (hw : v.SentWrongly f ∨ v.LengthWrong p) :
    judge (f.withCode v.code) s = .formatBad ⟨f.station, v.code, f.handle, f.urgent, f.headerCheck⟩ := by
  classical
  rw [judge_of_checked s v.code f p hc]
  simp only [Header.broadcast, formatVerb_of_checked hc, if_pos hw]

theorem judge_of_formatOk {s : State} {v : Verb} {f : Frame} {p : List Octet} (hc : Checked s v.code f p)
    (hm : ¬v.SentWrongly f) (hl : ¬v.LengthWrong p) :
    judge (f.withCode v.code) s
      = judgePayload s.link.station s.table.partState ⟨f.station, v.code, f.handle, f.urgent, f.headerCheck⟩ v p := by
  classical
  rw [judge_of_checked s v.code f p hc]
  simp only [Header.broadcast, formatVerb_of_checked hc, if_neg (not_or.2 ⟨hm, hl⟩)]

/-- Settles O5. -/
theorem frameAndFormatErrorsChangeOneCounter : Obligations.FrameAndFormatErrorsChangeOneCounter := by
  intro s hs
  refine ⟨fun code f p hcode hc => ?_, fun v f hf hb => ?_, fun v f p hc hw => ?_⟩
  · have hj : judge (f.withCode code) s = .formatBad ⟨f.station, code, f.handle, f.urgent, f.headerCheck⟩ := by
      rw [judge_of_checked s code f p hc]
      simp only [formatVerb, (Verb.ofCode_eq_none code).2 hcode]
    have e : s.takeFrame (f.withCode code) = _ := State.takeFrame_of_settled hs _
    rw [hj] at e
    exact congrArg _ (e.trans (answer_eq_replied s.countFormatError code f .formatError []))
  · rw [exec_instr_of_settled hs, judge_of_checkBad s v.code f hf hb]
    exact congrArg _ (answer_eq_replied s.countFrameError v.code f .checkError [])
  · rw [exec_instr_of_settled hs, judge_of_formatBad hc hw]
    exact congrArg _ (answer_eq_replied s.countFormatError v.code f .formatError [])

/-! ### The range check and the part state (R168, R177) -/

/-- Settles O6. -/
theorem rangeAndPartStateRefusalsChangeNothingElse : Obligations.RangeAndPartStateRefusalsChangeNothingElse := by
  intro s v f p hs hc hm hl read entries
  have refused : entriesRefused v s.link.station p = entries := by cases v <;> rfl
  rw [exec_instr_of_settled hs, judge_of_formatOk hc hm hl]
  unfold judgePayload
  refine ⟨fun hr => ?_, fun hr hp h1 h2 h3 h4 => ?_⟩
  · rw [show parseCommand v s.link.station f.handle.toFin f.urgent p = none from hr]
    dsimp only
    rw [refused]
    exact congrArg _ (answer_eq_replied (s.refuseEntries entries) v.code f .illegal [])
  · have htaken : v.takenUnconfigured = false := by
      cases v with
      | status => exact absurd rfl h1
      | readNotice => exact absurd rfl h2
      | resetLink => exact absurd rfl h3
      | configure => exact absurd rfl h4
      | demand | cycle | stop | lookup | bind | modify | retire | resume | push | pop => rfl
    obtain ⟨c, hread⟩ := Option.ne_none_iff_exists'.1 hr
    rw [show parseCommand v s.link.station f.handle.toFin f.urgent p = some c from hread]
    dsimp only
    rw [if_pos ⟨hp, htaken⟩, refused]
    exact congrArg _ (answer_eq_replied (s.refuseEntries entries) v.code f .unconfigured [])

/-! ### A command carried by a frame that passes every check -/

/-- A frame that carries a command in range, sent in a manner of its verb, to a part that takes it, is acted on and
answered (R169). -/
theorem exec_of_carried {s : State} (hs : s.settled = true) {c : Command} {f : Frame} {p : List Octet}
    (hadm : c.Admissible) (hcar : c.Carried s.link.station f.handle.toFin f.urgent p) (hc : Checked s c.verb.code f p)
    (hm : ¬c.verb.SentWrongly f) (hpart : s.table.partState = .ready ∨ c.verb.takenUnconfigured = true) :
    exec (c.verb.instr f) s = .next ((actOnCommand s c).state.replied c.verb.code f (actOnCommand s c).status
      (actOnCommand s c).payload) := by
  obtain ⟨hparse, hl⟩ := carriedCommandIsReadBack c s.link.station f.handle.toFin f.urgent p hadm hcar
  rw [exec_instr_of_settled hs, judge_of_formatOk hc hm hl]
  unfold judgePayload
  simp only [hparse]
  rw [if_neg]
  · exact congrArg _ (answer_eq_replied (actOnCommand s c).state c.verb.code f _ _)
  · rintro ⟨h1, h2⟩
    rcases hpart with hp | hp
    · rw [hp] at h1; cases h1
    · rw [hp] at h2; cases h2

end Sys2Proof.Machine

namespace Sys2Proof.Machine

/-! ### Requests at the port (R107, R108) -/

/-- What a command brings, answered to the frame that carries it (R169). -/
theorem exec_of_result {s : State} (hs : s.settled = true) {c : Command} {f : Frame} {p : List Octet} {r : VerbResult}
    (hadm : c.Admissible) (hcar : c.Carried s.link.station f.handle.toFin f.urgent p) (hc : Checked s c.verb.code f p)
    (hm : ¬c.verb.SentWrongly f) (hpart : s.table.partState = .ready ∨ c.verb.takenUnconfigured = true)
    (hr : actOnCommand s c = r) :
    exec (c.verb.instr f) s = .next (r.state.replied c.verb.code f r.status r.payload) := by
  rw [← hr]
  exact exec_of_carried hs hadm hcar hc hm hpart

theorem admitRequest_of_full {s : State} {urgent : Bool} {r : Request} (h : s.link.full urgent = true) :
    admitRequest s urgent r
      = ⟨.queueFull, [], { s with link := { s.link with dropped := satInc Config.octetMax s.link.dropped } }⟩ := if_pos h

theorem admitRequest_of_room {s : State} {urgent : Bool} {r : Request} (h : ¬s.link.full urgent = true) :
    admitRequest s urgent r = ⟨.queued, [], { s with link := s.link.enqueue urgent r }⟩ := if_neg h

theorem RequestBody.verb_not_sentWrongly (b : RequestBody) (f : Frame) : ¬b.verb.SentWrongly f := by
  cases b <;> simp [RequestBody.verb, Verb.SentWrongly]

/-- Settles O9. -/
theorem structuralRequestJoinsNamedQueueOrIsDropped : Obligations.StructuralRequestJoinsNamedQueueOrIsDropped := by
  intro s f body p hs hpart hadm hcar hc r replied
  have result {x : VerbResult} (hx : admitRequest s f.urgent r = x) :
      exec (body.verb.instr f) s = .next (x.state.replied body.verb.code f x.status x.payload) :=
    exec_of_result (c := .structural f.urgent r) hs hadm ⟨rfl, rfl, hcar⟩ hc (body.verb_not_sentWrongly f) (.inl hpart) hx
  refine ⟨fun hu hl => ?_, fun hu hl => ?_, fun hfull => ?_⟩
  · rw [hu] at result
    refine result (admitRequest_of_room ?_)
    rw [LinkPort.full_urgent_iff]
    exact Nat.not_le.2 hl
  · rw [hu] at result
    refine result (admitRequest_of_room ?_)
    rw [LinkPort.full_normal_iff]
    exact Nat.not_le.2 hl
  · refine result (admitRequest_of_full ?_)
    rcases hfull with ⟨hu, hl⟩ | ⟨hu, hl⟩
    · rwa [hu, LinkPort.full_urgent_iff]
    · rwa [hu, LinkPort.full_normal_iff]

/-- Settles O23. -/
theorem resetLinkClearsThePortAlone : Obligations.ResetLinkClearsThePortAlone := fun _ f hs hc =>
  exec_of_result (c := .resetLink) hs trivial rfl hc (by simp [Command.verb, Verb.SentWrongly]) (.inr rfl) rfl

/-! ### Demands applied (R11, R13, R30) -/

/-- A read of record memory does not see the entries. -/
theorem State.readBase_setClaim (s : State) (h k : Handle) (c : Claim) :
    (s.setClaim h c).readBase k = ((s.readBase k).1, (s.readBase k).2.setClaim h c) := by
  unfold State.readBase
  rw [State.recordsOf_setClaim]
  cases (s.recordsOf k).base with
  | none => rfl
  | some p =>
    cases ho : p.outcome with
    | good v | lost => simp only [ho]
    | repaired v => simp only [ho]; rfl

theorem State.setClaim_setClaim (s : State) (h : Handle) (c d : Claim) : (s.setClaim h c).setClaim h d = s.setClaim h d := by
  simp [State.setClaim]

theorem State.setClaim_claim (s : State) (h : Handle) : s.setClaim h (s.claim h) = s := by
  simp [State.setClaim, State.claim, Vector.get_eq_getElem]

theorem State.setEstimate_of_claim (s : State) (h : Handle) (e : Nat) (sd : DrawSide) :
    s.setEstimate h e sd = { s with
      claims := s.claims.set h.val { s.claim h with estimate := e, side := sd } h.isLt
      passes := if e = (s.claim h).estimate ∧ sd = (s.claim h).side then s.passes else s.passes.call } := by
  unfold State.setEstimate
  by_cases heq : (s.claim h).estimate = e ∧ (s.claim h).side = sd
  · obtain ⟨he, hsd⟩ := heq
    have same := s.setClaim_claim h
    simp only [he, hsd, and_self, if_true]
    rw [← he, ← hsd]
    exact same.symm
  · have hne : ¬(e = (s.claim h).estimate ∧ sd = (s.claim h).side) := fun h' => heq ⟨h'.1.symm, h'.2.symm⟩
    simp only [if_neg heq, if_neg hne]
    rfl

/-- Settles O12. -/
theorem appliedDemandReplacesValues : Obligations.AppliedDemandReplacesValues := by
  intro s h d w hrun hw c c1 repeated
  have hc1 : c1 = (s.claim h).demanded d := by simp [c1, c, Claim.demanded, hw]
  have same : repeated → (s.claim h).demand = d.demand ∧ (s.claim h).sign = d.sign ∧ (s.claim h).band = d.band :=
    fun ⟨h1, h2, h3⟩ => ⟨h1.symm, h2.symm, h3.symm⟩
  have same' : (s.claim h).demand = d.demand ∧ (s.claim h).sign = d.sign ∧ (s.claim h).band = d.band → repeated :=
    fun ⟨h1, h2, h3⟩ => ⟨h1.symm, h2.symm, h3.symm⟩
  refine ⟨fun he => ?_, fun r s' he hr => ?_, fun s' he hr => ?_⟩
  · rw [State.applyDemand_of_same (same he), hc1]
  · have hread : (s.setClaim h c1).readBase h = (some r, s'.setClaim h c1) := by rw [State.readBase_setClaim, hr]
    rw [hc1] at hread
    have hclaims : s'.claims = s.claims := by rw [show s' = (s.readBase h).2 by rw [hr]]; simp
    have hpasses : s'.passes = s.passes := by rw [show s' = (s.readBase h).2 by rw [hr]]; simp
    rw [State.applyDemand_of_some (mt same' he) (State.tableRead_of_some hread), State.setEstimate_of_claim,
      State.claim_setClaim_self, hc1]
    simp only [State.setClaim, hclaims, hpasses, Vector.set_set]
    rfl
  · have hread : (s.setClaim h ((s.claim h).demanded d)).readBase h = (none, s'.setClaim h ((s.claim h).demanded d)) := by
      rw [State.readBase_setClaim, hr]
    rw [State.applyDemand_of_none (mt same' he) (State.tableRead_of_none hread), State.readBase_none hr,
      State.recordLost_of_bound (by rw [State.claim_setClaim_self]; exact fun e => by simp [Claim.demanded, hrun] at e),
      State.claim_setClaim_self, State.setClaim_setClaim, hc1]

/-! ### DEMAND and CYCLE (R23, R29, R31, R179, R183, R184) -/

theorem State.enterTripped_shortFlag (s : State) (h : Handle) (r : TripReason) (st : Stage) :
    ((s.enterTripped h r).channel st).shortFlag = (s.channel st).shortFlag := by
  by_cases hm : (s.claim h).state ≠ .unbound ∧ (s.claim h).state ≠ .tripped
  · rw [State.enterTripped_of_moves r hm.1 hm.2, State.channel_post]
    cases hmap : (s.claim h).stageMap with
    | none =>
      rw [State.onStages_none, State.abandonRamp]
      simp only [hmap, ite_self]
      rfl
    | some m =>
      rw [State.channel_onStages _ m Channel.switchedOff (fun _ => rfl)]
      split <;> simp [Channel.switchedOff, State.channel_abandonRamp _ _ _ _ hmap]
  · rw [State.enterTripped_of_idle r (by tauto)]

theorem State.tableRead_shortFlag (s : State) (h : Handle) (st : Stage) :
    ((s.tableRead h).2.channel st).shortFlag = (s.channel st).shortFlag := by
  rw [s.tableRead_eq h]
  cases (s.readBase h).1 with
  | some r => exact congrArg Channel.shortFlag (s.channel_readBase h st)
  | none =>
    refine Eq.trans ?_ (congrArg Channel.shortFlag (s.channel_readBase h st))
    dsimp only
    unfold State.recordLost
    dsimp only
    split
    · rw [State.enterTripped_shortFlag, State.channel_setClaim]
    · rfl

theorem State.applyDemand_shortFlag (s : State) (h : Handle) (d : DemandFields) (st : Stage) :
    ((s.applyDemand h d).channel st).shortFlag = (s.channel st).shortFlag := by
  by_cases he : (s.claim h).demand = d.demand ∧ (s.claim h).sign = d.sign ∧ (s.claim h).band = d.band
  · rw [State.applyDemand_of_same he, State.channel_setClaim]
  have hread := (s.setClaim h ((s.claim h).demanded d)).tableRead_shortFlag h st
  rcases hr : (s.setClaim h ((s.claim h).demanded d)).tableRead h with ⟨_ | r, u⟩
  · rw [hr] at hread
    rwa [State.applyDemand_of_none he hr]
  · rw [hr] at hread
    rw [State.applyDemand_of_some he hr, State.channel_congr (State.setEstimate_channels _ _ _ _)]
    exact hread

theorem demandAtTable_of_run {s : State} {h : Handle} {d : DemandFields} (hs : (s.claim h).state = .run) :
    demandAtTable s h d = ⟨.ok, demandPayload (s.applyDemand h d) h, s.applyDemand h d⟩ := by
  simp only [demandAtTable, hs]

theorem demandAtTable_of_unbound {s : State} {h : Handle} {d : DemandFields} (hs : (s.claim h).state = .unbound) :
    demandAtTable s h d = ⟨.noClaim, [], s⟩ := by
  simp only [demandAtTable, hs]

theorem demandAtTable_of_other {s : State} {h : Handle} {d : DemandFields} (hu : (s.claim h).state ≠ .unbound)
    (hr : (s.claim h).state ≠ .run) : demandAtTable s h d = ⟨.wrongState, [(s.claim h).state.code], s⟩ := by
  unfold demandAtTable
  cases hs : (s.claim h).state with
  | unbound => exact absurd hs hu
  | run => exact absurd hs hr
  | stale | releasing | braking | halted | tripped => rfl

theorem demandPayload_of_map {t : State} {h : Handle} {m : StageMap} (hm : (t.claim h).stageMap = some m) :
    demandPayload t h = [(t.claim h).state.code] ++ octets16 (t.claim h).driveGrant ++ octets16 (t.claim h).returnGrant
      ++ [markOctet (t.channel m.primary).shortFlag] := by
  simp only [demandPayload, State.shortFlagOf, hm]

/-- Settles O13. -/
theorem demandIsAppliedInRunAndRefusedElsewhere : Obligations.DemandIsAppliedInRunAndRefusedElsewhere := by
  intro s f d m hs hpart hadm hc h c
  have result {x : VerbResult} (hx : demandAtTable s h d = x) :
      exec (.demand f) s = .next (x.state.replied Verb.demand.code f x.status x.payload) :=
    exec_of_result (c := .demand h d) hs hadm ⟨rfl, rfl⟩ hc (by simp [Command.verb, Verb.SentWrongly]) (.inl hpart) hx
  refine ⟨fun hrun hmap => ?_, fun hu => result (demandAtTable_of_unbound hu),
    fun hu hr => result (demandAtTable_of_other hu hr)⟩
  have hm : ((s.applyDemand h d).claim h).stageMap = some m :=
    (((Eased.applyDemand hrun d).claims h).stageMap).trans hmap
  refine (result (demandAtTable_of_run hrun)).trans ?_
  rw [demandPayload_of_map hm, State.applyDemand_shortFlag]

theorem cycleEntry_of_run {s : State} {e : CycleEntry} (h : (s.claim e.handle).state = .run) :
    cycleEntry s e = s.applyDemand e.handle e.fields := if_pos h

theorem cycleEntry_of_ne {s : State} {e : CycleEntry} (h : (s.claim e.handle).state ≠ .run) :
    cycleEntry s e = s.refuseEntries 1 := if_neg h

/-- Settles O14. -/
theorem cycleTakesItsEntriesInListOrder : Obligations.CycleTakesItsEntriesInListOrder := by
  refine ⟨?_, fun s e => ⟨cycleEntry_of_run, cycleEntry_of_ne⟩⟩
  intro s f es p hs hpart hst hadm hcar hc t
  have hx : exec (.cycle f) s = .next (t.replied Verb.cycle.code f .ok []) :=
    exec_of_result (c := .cycle es) hs hadm hcar hc (by simp [Command.verb, Verb.SentWrongly, hst]) (.inl hpart) rfl
  rw [hx, State.replied, LinkPort.replied, hst]
  rfl

end Sys2Proof.Machine

namespace Sys2Proof.Machine

/-! ### Claims braked one after another (R42 to R44) -/

theorem State.readBase_of_none {s : State} {h : Handle} (hr : (s.readBase h).1 = none) : s.readBase h = (none, s) := by
  have hpair : s.readBase h = (none, (s.readBase h).2) := Prod.ext hr rfl
  rw [hpair, State.readBase_none hpair]

theorem ClaimState.ne_of_live {x : ClaimState} (h : x.live = true) : x ≠ .unbound ∧ x ≠ .tripped := by
  cases x <;> simp_all [ClaimState.live]

/-- The entry of a claim that enters BRAKING, when its record is read (R43). -/
theorem State.enterBraking_claim_of_some {s : State} {h : Handle} {r : BaseRecord} (hr : (s.readBase h).1 = some r) :
    (s.enterBraking h).claim h = (s.claim h).braking r.brakeTime := by
  rw [State.enterBraking_of_some (Prod.ext hr rfl)]
  simp

/-- A claim found without its record on the way to BRAKING is LOST and TRIPPED (R50). -/
theorem State.enterBraking_of_lost {s : State} {h : Handle} (hl : (s.claim h).state.live = true)
    (hr : (s.readBase h).1 = none) :
    (s.enterBraking h).claim h = ({ s.claim h with condition := some .lost } : Claim).tripped .recordLost
      ∧ (s.enterBraking h).passes = s.passes.call := by
  obtain ⟨hb, ht⟩ := ClaimState.ne_of_live hl
  rw [State.enterBraking_of_none (State.readBase_of_none hr) hb]
  constructor
  · rw [State.enterTripped_claim_self _ (by simpa using hb) (by simpa using ht), State.claim_setClaim_self]
  · rw [State.enterTripped_of_moves _ (by simpa using hb) (by simpa using ht)]
    simp

theorem State.enterBraking_passes {s : State} {h : Handle} (hl : (s.claim h).state.live = true) :
    (s.enterBraking h).passes = s.passes.call := by
  rcases hr : s.readBase h with ⟨_ | r, u⟩
  · exact (State.enterBraking_of_lost hl (by rw [hr])).2
  · rw [State.enterBraking_of_some hr, show u = (s.readBase h).2 by rw [hr]]
    simp

/-- However its brake-time read ends, a claim that enters BRAKING holds no grant (R25). -/
theorem State.enterBraking_entered {s : State} {h : Handle} (hl : (s.claim h).state.live = true) :
    (((s.enterBraking h).claim h).state = .braking ∨ ((s.enterBraking h).claim h).state = .tripped)
      ∧ ((s.enterBraking h).claim h).driveGrant = 0 ∧ ((s.enterBraking h).claim h).returnGrant = 0 := by
  cases hr : (s.readBase h).1 with
  | none => rw [(State.enterBraking_of_lost hl hr).1]; exact ⟨.inr rfl, rfl, rfl⟩
  | some r => rw [State.enterBraking_claim_of_some hr]; exact ⟨.inl rfl, rfl, rfl⟩

theorem State.enterBraking_recordsOf_of_ne (s : State) {h k : Handle} (hk : k ≠ h) :
    (s.enterBraking h).recordsOf k = s.recordsOf k := by
  have hread := s.tableRead_recordsOf_of_ne hk
  unfold State.enterBraking
  rcases ht : s.tableRead h with ⟨_ | r, u⟩
  · rw [ht] at hread
    exact hread
  · rw [ht] at hread
    dsimp only
    rw [State.recordsOf_onStages, State.recordsOf_congr (State.abandonRamp_memory _ _ _)]
    exact hread

/-- The claims of a list entered into BRAKING one after another. -/
abbrev State.enterBrakings (s : State) (hs : List Handle) : State := hs.foldl (fun u h => u.enterBraking h) s

theorem State.enterBrakings_claim_of_not_mem (s : State) {hs : List Handle} {h : Handle} (hh : h ∉ hs) :
    (s.enterBrakings hs).claim h = s.claim h := by
  induction hs generalizing s with
  | nil => rfl
  | cons k hs ih =>
    obtain ⟨hne, hh⟩ := List.ne_and_not_mem_of_not_mem_cons hh
    exact (ih _ hh).trans (s.enterBraking_claim_of_ne k h hne)

/-- What a claim of the list becomes: its entry to BRAKING, from a state that shows it as it was at the start. -/
theorem State.enterBrakings_claim_of_mem (s : State) {hs : List Handle} (hn : hs.Nodup) {h : Handle} (hh : h ∈ hs) :
    ∃ u : State, u.claim h = s.claim h ∧ u.recordsOf h = s.recordsOf h
      ∧ (s.enterBrakings hs).claim h = (u.enterBraking h).claim h := by
  induction hs generalizing s with
  | nil => cases hh
  | cons k hs ih =>
    obtain ⟨hk, hn⟩ := List.nodup_cons.1 hn
    by_cases he : h = k
    · subst he
      exact ⟨s, rfl, rfl, State.enterBrakings_claim_of_not_mem _ hk⟩
    · obtain ⟨u, hc, hr, ht⟩ := ih (s.enterBraking k) hn ((List.mem_cons.1 hh).resolve_left he)
      exact ⟨u, hc.trans (s.enterBraking_claim_of_ne k h he), hr.trans (s.enterBraking_recordsOf_of_ne he), ht⟩

theorem State.enterBrakings_entered (s : State) {hs : List Handle} (hn : hs.Nodup) {h : Handle} (hh : h ∈ hs)
    (hl : (s.claim h).state.live = true) :
    (((s.enterBrakings hs).claim h).state = .braking ∨ ((s.enterBrakings hs).claim h).state = .tripped)
      ∧ ((s.enterBrakings hs).claim h).driveGrant = 0 ∧ ((s.enterBrakings hs).claim h).returnGrant = 0 := by
  obtain ⟨u, hc, -, ht⟩ := s.enterBrakings_claim_of_mem hn hh
  rw [ht]
  exact State.enterBraking_entered (by rw [hc]; exact hl)

theorem State.enterBrakings_passes (s : State) {hs : List Handle} (hn : hs.Nodup)
    (hl : ∀ h ∈ hs, (s.claim h).state.live = true) :
    (s.enterBrakings hs).passes = if hs = [] then s.passes else s.passes.call := by
  induction hs generalizing s with
  | nil => rfl
  | cons k hs ih =>
    obtain ⟨hk, hn⟩ := List.nodup_cons.1 hn
    have rest := ih (s.enterBraking k) hn fun h hh => by
      rw [s.enterBraking_claim_of_ne k h fun e => hk (e ▸ hh)]
      exact hl h (List.mem_cons_of_mem k hh)
    rw [State.enterBraking_passes (hl k List.mem_cons_self)] at rest
    rw [if_neg (List.cons_ne_nil k hs)]
    refine Eq.trans (show _ = ((s.enterBraking k).enterBrakings hs).passes from rfl) (rest.trans ?_)
    split <;> simp

theorem State.enterBrakings_frame (s : State) (hs : List Handle) :
    (s.enterBrakings hs).table = s.table ∧ (s.enterBrakings hs).monitor = s.monitor
      ∧ (s.enterBrakings hs).inputs = s.inputs ∧ (s.enterBrakings hs).pending = s.pending := by
  induction hs generalizing s with
  | nil => exact ⟨rfl, rfl, rfl, rfl⟩
  | cons k hs ih =>
    obtain ⟨h1, h2, h3, h4⟩ := ih (s.enterBraking k)
    exact ⟨h1.trans (by simp), h2.trans (by simp), h3.trans (by simp), h4.trans (by simp)⟩

/-- The handles a STOP reaches (R42). -/
def stopScope (scope : Option Handle) : List Handle :=
  match scope with
  | none => Handle.all
  | some h => [h]

theorem stopScope_nodup (scope : Option Handle) : (stopScope scope).Nodup := by
  cases scope with
  | none => exact Handle.all_nodup
  | some h => exact List.nodup_singleton h

theorem stopAtTable_eq (s : State) (scope : Option Handle) :
    stopAtTable s scope = ⟨.ok, [octetOf ((stopScope scope).filter (fun h => (s.claim h).state.live)).length],
      s.enterBrakings ((stopScope scope).filter (fun h => (s.claim h).state.live))⟩ := by
  have e : stopAtTable s scope
      = ⟨.ok, [octetOf (s.brakeAll (stopScope scope)).1], (s.brakeAll (stopScope scope)).2⟩ := by
    unfold stopAtTable stopScope
    generalize s.brakeAll _ = x
    rfl
  rw [e, s.brakeAll_eq_foldl (stopScope scope) (stopScope_nodup scope)]

/-- Settles O15. -/
theorem stopBrakesEveryLiveClaimInScope : Obligations.StopBrakesEveryLiveClaimInScope := by
  intro s f all hs hpart hc scope moved t
  have hscope : scope = stopScope (if all then none else some f.handle.toFin) := by
    cases all <;> rfl
  have hn : moved.Nodup := by
    simp only [moved, hscope]
    exact (stopScope_nodup _).filter _
  have hlive : ∀ h ∈ moved, (s.claim h).state.live = true := fun h hh => by simpa using (List.mem_filter.1 hh).2
  obtain ⟨htable, hmonitor, hinputs, -⟩ := s.enterBrakings_frame moved
  refine ⟨?_, fun h hh => s.enterBrakings_entered hn hh (hlive h hh), fun h hh r s' hr => ?_,
    fun h hh => s.enterBrakings_claim_of_not_mem hh, htable, hmonitor, hinputs, s.enterBrakings_passes hn hlive⟩
  · have e := stopAtTable_eq s (if all then none else some f.handle.toFin)
    rw [← hscope] at e
    exact exec_of_result (c := .stop (if all then none else some f.handle.toFin)) hs trivial (by cases all; exact ⟨rfl, rfl⟩; rfl)
      hc (by simp [Command.verb, Verb.SentWrongly]) (.inl hpart) e
  · obtain ⟨u, -, hu, ht⟩ := s.enterBrakings_claim_of_mem hn hh
    have hread : (u.readBase h).1 = some r := by rw [State.readBase_fst_congr hu, hr]
    exact (congrArg Claim.state (ht.trans (State.enterBraking_claim_of_some hread)))

/-! ### CONFIGURE (R68, R150, R180) -/

/-- Two states that agree in every block are the same. -/
theorem State.eq_of_blocks {s t : State} (link : s.link = t.link) (claims : s.claims = t.claims) (table : s.table = t.table)
    (passes : s.passes = t.passes) (memory : s.memory = t.memory) (channels : s.channels = t.channels)
    (reports : s.reports = t.reports) (monitor : s.monitor = t.monitor) (inputs : s.inputs = t.inputs)
    (pending : s.pending = t.pending) : s = t := by
  cases s
  cases t
  simp_all

/-- Budgets put in force while no claim is bound reach the table and the pass flags alone. -/
theorem State.applyBudgets_of_unbound {s : State} (hu : ∀ h, s.claim h = Claim.unbound) (b : Budgets) :
    s.applyBudgets b = { s with table := { s.table with budgets := b }, passes := (s.applyBudgets b).passes } := by
  refine State.eq_of_blocks (by simp) (State.claims_ext _ _ fun h => ?_) (s.applyBudgets_table b) rfl (by simp) (by simp)
    (by simp) (by simp) (by simp) (by simp)
  rw [State.applyBudgets_claim, hu]
  refine Eq.trans ?_ (hu h).symm
  simp [Claim.unbound, ClaimState.live]

/-- The budgets formed from a stack of one envelope just written, without a supply (R75). -/
theorem State.formBudgets_of_base {s : State} {e : Envelope} (hstack : s.table.stack = [⟨Part.written e, .intact⟩])
    (hst : s.table.standing.state = .absent) : s.formBudgets = (⟨0, 0, some e.cut⟩, s) := by
  have hread : s.readEnvelope s.table.stack.length = (.values e, s) := by
    rw [State.readEnvelope_eq (e := ⟨Part.written e, .intact⟩) (by simp [hstack]) rfl]
    rfl
  rw [State.formBudgets_of_ne (by simp [hstack]), hread, Table.budgetsOf, if_neg (by simp [hst])]
  rfl

theorem State.configureMonitor_eq (s : State) (x : ConfigureFields) : s.configureMonitor x = { s with
    link := if s.monitor.state = .absent then s.link else s.link.post (.supply .absent none)
    monitor := { s.monitor with
      state := .absent, reason := none, g := x.g, timeout := some x.timeout, timer := .running x.timeout } } := by
  unfold State.configureMonitor
  dsimp only
  split <;> rfl

/-- Settles O22. -/
theorem configureSetsThePartOrIsRefused : Obligations.ConfigureSetsThePartOrIsRefused := by
  intro s f x hs hadm hc
  have result {r : VerbResult} (hr : configurePart s x = r) :
      exec (.configure f) s = .next (r.state.replied Verb.configure.code f r.status r.payload) :=
    exec_of_result (c := .configure x) hs hadm rfl hc (by simp [Command.verb, Verb.SentWrongly]) (.inr rfl) hr
  refine ⟨fun hb => result (if_pos ?_), ?_⟩
  · rw [Ne, State.boundClaims_eq_zero]
    exact hb.imp_left fun ⟨h, hh⟩ => fun hall => hh (hall h)
  · intro hu hl old falls p l
    have hfree : ¬(s.boundClaims ≠ 0 ∨ 1 < s.table.stack.length) := by
      rw [not_or, not_not, State.boundClaims_eq_zero]
      exact ⟨fun h => by rw [hu h]; rfl, Nat.not_lt.2 hl⟩
    refine (result (if_neg hfree)).trans (congrArg _ ?_)
    let u := (s.configureMonitor x).configureTable x
    have hform : u.formBudgets = (⟨0, 0, some 7⟩, u) := State.formBudgets_of_base (e := x.envelope) rfl rfl
    have hmon := s.configureMonitor_eq x
    have hclaims (h : Handle) : u.claim h = Claim.unbound := by
      refine Eq.trans (show _ = (s.configureMonitor x).claim h from rfl) ?_
      rw [hmon]; exact hu h
    have hpasses := u.applyBudgets_passes ⟨0, 0, some 7⟩
    have hu' : u.passes = s.passes ∧ u.table.budgets = s.table.budgets := by
      simp only [u, State.configureTable, hmon, and_self]
    have hre : u.recompute = u.applyBudgets ⟨0, 0, some 7⟩ := by rw [State.recompute, hform]
    dsimp only
    rw [show ((s.configureMonitor x).configureTable x).recompute = u.recompute from rfl, hre,
      State.applyBudgets_of_unbound hclaims, hpasses, hu'.1, hu'.2]
    simp only [u, State.configureTable, hmon, State.replied]
    have hold : ((⟨0, 0, some 7⟩ : Budgets) = s.table.budgets) = (old = ⟨0, 0, some 7⟩) := propext eq_comm
    simp only [hold]
    rfl

end Sys2Proof.Machine

namespace Sys2Proof.Machine

/-! ### LOOKUP (R20, R21) -/

theorem lookupRead_of_lost {s : State} {h : Handle} (hc : (s.claim h).condition = some .lost) :
    lookupRead s h = (none, s) := if_pos hc

theorem lookupRead_of_ne {s : State} {h : Handle} (hc : (s.claim h).condition ≠ some .lost) :
    lookupRead s h = s.tableRead h := if_neg hc

theorem lookupAtTable_of_unbound {s : State} {h : Handle} (clear : Bool) (hu : (s.claim h).state = .unbound) :
    lookupAtTable s h clear = ⟨.noClaim, [], s⟩ := if_pos hu

theorem lookupAtTable_of_read {s t : State} {h : Handle} {r : Option BaseRecord} (clear : Bool)
    (hu : (s.claim h).state ≠ .unbound) (hr : lookupRead s h = (r, t)) :
    lookupAtTable s h clear = ⟨.ok, lookupPayload t h r, if clear then t.clearShortfall h else t⟩ := by
  simp only [lookupAtTable, if_neg hu, hr]

theorem State.clearShortfall_of_map {t : State} {h : Handle} {m : StageMap} (hm : (t.claim h).stageMap = some m) :
    t.clearShortfall h = t.setChannel m.primary { t.channel m.primary with shortfall := 0 } := by
  simp only [State.clearShortfall, hm]
  rfl

/-- The number of a motion sign (0.4). -/
def MotionSign.number : MotionSign → Nat
  | .still => 0
  | .fwd => 1
  | .rev => 2

theorem signBandOctet_eq (sign : MotionSign) (band : Band) :
    signBandOctet sign band = octetOf (16 * sign.number + band.val) := by
  cases sign <;> revert band <;> decide

/-- The weight of a mark in an octet of bits. -/
def bitOf (b : Bool) (n : Nat) : Nat := if b then 2 ^ n else 0

theorem Flags.octet_eq (f : Flags) : f.octet = octetOf (bitOf f.hold 0 + bitOf f.cutExempt 1 + bitOf f.shortNotice 2) := by
  obtain ⟨a, b, c⟩ := f
  revert a b c
  decide

theorem presence_eq (a b c : Bool) :
    (0#5 ++ BitVec.ofBool c ++ BitVec.ofBool b ++ BitVec.ofBool a : Octet) = octetOf (bitOf a 0 + bitOf b 1 + bitOf c 2) := by
  revert a b c
  decide

/-- The octets of a LOOKUP that come from the record read; zeros where there is none (9.10.3). -/
def recordOctets : Option BaseRecord → List Octet
  | none => [0, 0, 0, 0]
  | some x => [octetOf x.level] ++ octets16 x.floor
    ++ [octetOf (bitOf x.flags.hold 0 + bitOf x.flags.cutExempt 1 + bitOf x.flags.shortNotice 2)]

theorem recordOctets_eq (r : Option BaseRecord) : [octetOf ((r.map (·.level)).getD 0)]
    ++ octets16 ((r.map (·.floor)).getD 0) ++ [(r.map (·.flags.octet)).getD 0] = recordOctets r := by
  cases r with
  | none => rfl
  | some x => simp only [recordOctets, Option.map_some, Option.getD_some, Flags.octet_eq]

theorem conditionCode_eq (c : Option Condition) : (c.map (·.code)).getD 0 = if c = some .lost then 1 else 0 := by
  rcases c with _ | _ | _ <;> rfl

theorem sideCode_eq (x : DrawSide) : x.code = if x = .ret then 1 else 0 := by cases x <;> rfl

theorem tripOctet_eq (r : Option TripReason) : (r.map (·.code)).getD 0 = r.elim 0 TripReason.code := by
  cases r <;> rfl

/-- The payload of a LOOKUP of a claim with a stage map (9.10.3). -/
theorem lookupPayload_of_map {t : State} {h : Handle} {m : StageMap} (hm : (t.claim h).stageMap = some m)
    (r : Option BaseRecord) :
    lookupPayload t h r = [(t.claim h).state.code, m.cls.code, octetOf m.primary.val]
      ++ [m.partner.elim 0 (fun q => octetOf q.val)]
      ++ [octetOf (bitOf m.partner.isSome 0 + bitOf r.isSome 1 + bitOf (t.claim h).tripReason.isSome 2)]
      ++ [if (t.claim h).condition = some .lost then 1 else 0]
      ++ recordOctets r
      ++ signedOctets16 (t.claim h).demand ++ [octetOf (16 * (t.claim h).sign.number + (t.claim h).band.val)]
      ++ octets16 (t.claim h).estimate ++ [if (t.claim h).side = .ret then 1 else 0]
      ++ octets16 (t.claim h).driveGrant ++ octets16 (t.claim h).returnGrant
      ++ octets16 (t.channel m.primary).shortfall
      ++ [if (t.channel m.primary).shortFlag then 1 else 0, (t.claim h).tripReason.elim 0 TripReason.code] := by
  simp only [lookupPayload, hm, Option.bind_some, Option.map_some, Option.getD_some, presence_eq,
    conditionCode_eq, ← recordOctets_eq, signBandOctet_eq, sideCode_eq, tripOctet_eq, State.shortfallOf,
    State.shortFlagOf, markOctet, List.append_assoc, List.cons_append, List.nil_append]
  cases m.partner <;> rfl

/-- Settles O19. -/
theorem lookupReportsTheClaimAsItStands : Obligations.LookupReportsTheClaimAsItStands := by
  intro s f clear hs hpart hst hc h c bit reported answered
  have result {x : VerbResult} (hx : lookupAtTable s h clear = x) :
      exec (.lookup f) s = .next (x.state.replied Verb.lookup.code f x.status x.payload) :=
    exec_of_result (c := .lookup h clear) hs trivial ⟨rfl, rfl⟩ hc
      (by simpa [Command.verb, Verb.SentWrongly] using hst) (.inl hpart) hx
  refine ⟨fun hu => result (lookupAtTable_of_unbound clear hu), fun m hu hm => ?_⟩
  have payload {t : State} (hmt : (t.claim h).stageMap = some m) (r : Option BaseRecord) :
      lookupPayload t h r = reported t m r := by
    refine (lookupPayload_of_map hmt r).trans ?_
    dsimp only [reported]
    congr 12
    · cases m.partner <;> rfl
    · cases (t.claim h).tripReason <;> rfl
  have report {t : State} {r : Option BaseRecord} (hr : lookupRead s h = (r, t)) :
      exec (.lookup f) s = .next (answered t m r) := by
    have hmt : (t.claim h).stageMap = some m := by
      have e := (Eased.lookupRead s h).claims h
      rw [hr] at e
      exact e.stageMap.trans hm
    refine (result (lookupAtTable_of_read clear hu hr)).trans ?_
    rw [payload hmt, State.clearShortfall_of_map hmt]
  refine ⟨fun hl => report (lookupRead_of_lost hl), fun r s' hl hr => report ?_, fun s' hl hr => report ?_⟩
  · rw [lookupRead_of_ne hl, State.tableRead_of_some hr]
  · rw [lookupRead_of_ne hl, State.tableRead_of_none hr, State.readBase_none hr, State.recordLost_of_bound hu]

end Sys2Proof.Machine

namespace Sys2Proof.Machine

/-! ### STATUS (R62, R182) -/

theorem statusRead_of_values {acc : List (Option Nat) × State} {depth : Nat} {e : Envelope} {u : State}
    (h : acc.2.readEnvelope depth = (.values e, u)) : statusRead acc depth = (acc.1 ++ [some e.tag], u) := by
  simp only [statusRead, State.readEnvelopeAndRecompute, h]

theorem statusRead_of_lost {acc : List (Option Nat) × State} {depth : Nat} {u : State}
    (h : acc.2.readEnvelope depth = (.lost false, u)) : statusRead acc depth = (acc.1 ++ [none], u) := by
  simp only [statusRead, State.readEnvelopeAndRecompute, h]

theorem statusRead_of_lostNow {acc : List (Option Nat) × State} {depth : Nat} {u : State}
    (h : acc.2.readEnvelope depth = (.lost true, u)) : statusRead acc depth = (acc.1 ++ [none], u.recompute) := by
  simp only [statusRead, State.readEnvelopeAndRecompute, h]

theorem State.readEnvelope_of_beyond {s : State} {depth : Nat} (h : s.table.stack[depth - 1]? = none) :
    s.readEnvelope depth = (.lost false, s) := by
  simp only [State.readEnvelope, h]

/-- The tag octet at a depth: 0 where no tag is known (9.10.3). -/
def tagOctet : Option (Option Nat) → Octet
  | some (some x) => octetOf x
  | some none => 0
  | none => 0

theorem tagOctets_eq (tags : List (Option Nat)) : tagOctets tags = (List.range 8).map (fun i => tagOctet tags[i]?) := by
  refine List.map_congr_left fun i _ => ?_
  rw [List.getD_eq_getElem?_getD]
  rcases tags[i]? with _ | _ | x <;> rfl

/-- An entry of the stack whose reads change nothing: LOST, or with a good primary copy. -/
def StackEntry.Sound (e : StackEntry) : Prop := e.condition = .intact → e.part.primary.good = true

/-- The tag that STATUS reports of an entry with a good primary copy (R182). -/
def StackEntry.tag (e : StackEntry) : Option Nat :=
  match e.condition with
  | .intact => some e.part.primary.value.tag
  | .lost => none

theorem statusRead_of_sound {acc : List (Option Nat) × State} {depth : Nat} {e : StackEntry}
    (he : acc.2.table.stack[depth - 1]? = some e) (hs : e.Sound) : statusRead acc depth = (acc.1 ++ [e.tag], acc.2) := by
  cases hc : e.condition with
  | lost =>
    rw [statusRead_of_lost (State.readEnvelope_of_lost he hc)]
    simp only [StackEntry.tag, hc]
  | intact =>
    rw [statusRead_of_values (u := acc.2) (e := e.part.primary.value)
      (by rw [State.readEnvelope_eq he hc, Part.outcome_of_primary (hs hc)])]
    simp only [StackEntry.tag, hc]

/-- Reads of a stack whose entries are sound give its tags and leave the part as it stood. -/
theorem statusReads_of_sound {s : State} (hs : ∀ e ∈ s.table.stack, e.Sound) (n : Nat) (hn : n ≤ s.table.stack.length) :
    ((List.range n).map (· + 1)).foldl statusRead ([], s) = ((s.table.stack.take n).map StackEntry.tag, s) := by
  induction n with
  | zero => rfl
  | succ n ih =>
    have he : s.table.stack[n]? = some s.table.stack[n] := List.getElem?_eq_getElem hn
    rw [List.range_succ, List.map_append, List.foldl_append, ih (Nat.le_of_succ_le hn)]
    refine (statusRead_of_sound (depth := n + 1) he (hs _ (List.getElem_mem hn))).trans ?_
    rw [List.take_add_one, he, List.map_append]
    rfl

/-- Settles O20. -/
theorem statusReportsThePartAfterItsReads : Obligations.StatusReportsThePartAfterItsReads := by
  intro s f hs hst hc read reads tags t tag unknown bound cut
  have reading : statusRead = read := by
    funext acc depth
    obtain ⟨found, u⟩ := acc
    simp only [read]
    split
    · rename_i he
      exact statusRead_of_lost (State.readEnvelope_of_beyond he)
    · rename_i e he
      cases hcond : e.condition with
      | lost =>
        rw [if_pos rfl]
        exact statusRead_of_lost (State.readEnvelope_of_lost he hcond)
      | intact =>
        have hread := State.readEnvelope_eq (s := u) he hcond
        simp only [hcond] at hread
        rw [if_neg (by decide)]
        by_cases hp : e.part.primary.good = true
        · rw [if_pos hp]
          rw [Part.outcome_of_primary hp] at hread
          exact statusRead_of_values hread
        · rw [if_neg hp]
          by_cases hq : e.part.shadow.good = true
          · rw [if_pos hq]
            rw [Part.outcome_of_shadow (by simpa using hp) hq] at hread
            exact statusRead_of_values hread
          · rw [if_neg hq]
            rw [Part.outcome_of_neither (by simpa using hp) (by simpa using hq)] at hread
            exact statusRead_of_lostNow hread
  have hreads : statusTags s = reads := by
    unfold statusTags
    rw [reading]
  refine ⟨?_, fun hgood => ?_⟩
  · refine (exec_of_result (c := .status) hs trivial rfl hc (by simpa [Command.verb, Verb.SentWrongly] using hst) (.inr rfl)
      (r := ⟨.ok, statusPayload t tags, t⟩) ?_).trans ?_
    · show statusOfPart s = _
      unfold statusOfPart
      rw [hreads]
    · refine congrArg (fun l => Host.Outcome.next (t.replied Verb.status.code f .ok l)) ?_
      dsimp only [statusPayload]
      rw [State.boundClaims_eq, tagOctets_eq]
      have octet (d : Nat) : tag d = tagOctet tags[d - 1]? := by
        simp only [tag]
        rcases tags[d - 1]? with _ | _ | x <;> rfl
      congr 12
      · simp only [cut]
        cases t.table.budgets.cut <;> rfl
      · simp only [octet]
        rfl
  · have sound : ∀ e ∈ s.table.stack, e.Sound := fun e he h => hgood e he h
    have e := statusReads_of_sound sound _ le_rfl
    rw [reading, List.take_length] at e
    have ht : t = s := congrArg Prod.snd e
    have htags : tags = s.table.stack.map StackEntry.tag := congrArg Prod.fst e
    exact ⟨ht, htags⟩

end Sys2Proof.Machine

namespace Sys2Proof.Machine

/-! ### Replies and notices on the line (9.10, R165, R170) -/

theorem octets16_eq {n : Nat} (hn : n < 65536) : octets16 n = [octetOf (n / 256), octetOf (n % 256)] := by
  have high : (BitVec.ofNat 16 n).extractLsb' 8 8 = octetOf (n / 256) := by
    apply BitVec.eq_of_toNat_eq
    simp only [BitVec.extractLsb'_toNat, BitVec.toNat_ofNat, octetOf, Nat.shiftRight_eq_div_pow]
    omega
  have low : (BitVec.ofNat 16 n).extractLsb' 0 8 = octetOf (n % 256) := by
    apply BitVec.eq_of_toNat_eq
    simp only [BitVec.extractLsb'_toNat, BitVec.toNat_ofNat, octetOf, Nat.shiftRight_eq_div_pow]
    omega
  rw [octets16, wordOctets, high, low]

theorem signedOctets16_eq (x : Int) : signedOctets16 x = octets16 (x % 65536).toNat := by
  have word : BitVec.ofInt 16 x = BitVec.ofNat 16 (x % 65536).toNat := by
    apply BitVec.eq_of_toNat_eq
    simp only [BitVec.toNat_ofInt, BitVec.toNat_ofNat]
    omega
  rw [signedOctets16, octets16, word]

theorem frameCheck_append (os : List Octet) (o : Octet) : frameCheck (os ++ [o]) = crcOctet (frameCheck os) o := by
  rw [frameCheck, List.foldl_append]
  rfl

theorem echoOctet_eq (code : BitVec 5) (h : BitVec 4) :
    (h ++ code.extractLsb' 0 4 : Octet) = octetOf (16 * h.toNat + code.toNat % 16) := by
  revert code h
  decide

theorem statusOctet_eq (code : BitVec 5) (st : Status) :
    (BitVec.ofBool code.msb ++ 0#3 ++ st.code : Octet) = octetOf (128 * (code.toNat / 16) + st.code.toNat) := by
  cases st <;> revert code <;> decide

theorem verbOctet_eq (v : Verb) : (0#3 ++ v.code : Octet) = octetOf v.code.toNat := by cases v <;> rfl

theorem wordOctets_toNat (w : BitVec 16) : wordOctets w = octets16 w.toNat := by
  rw [octets16, BitVec.ofNat_toNat, BitVec.setWidth_eq]

theorem replyFrame_eq (code : BitVec 5) (h : BitVec 4) (st : Status) (payload : List Octet) :
    let covered := octetOf (128 * (code.toNat / 16) + st.code.toNat) :: octetOf (16 * h.toNat + code.toNat % 16) :: payload
    replyFrame code h st payload = covered ++ octets16 (frameCheck covered).toNat := by
  intro covered
  rw [replyFrame, statusOctet_eq, echoOctet_eq, wordOctets_toNat]

/-- Settles O21. -/
theorem readNoticeTakesTheOldest : Obligations.ReadNoticeTakesTheOldest := by
  unfold Obligations.ReadNoticeTakesTheOldest
  intro verbCode statusCode outcomeCode claimStateCode tripCode supplyCode supplyReason noticeOctets
  have hverb (v : Verb) : v.code.toNat = verbCode v := by cases v <;> rfl
  have hstatus (x : Status) : x.code.toNat = statusCode x := by cases x <;> rfl
  have houtcome (x : DoneOutcome) : x.code = octetOf (outcomeCode x) := by cases x <;> rfl
  have htrip (x : TripReason) : x.code = octetOf (tripCode x) := by cases x <;> rfl
  have hsupply (x : SupplyState) : x.code = octetOf (supplyCode x) := by cases x <;> rfl
  have hreason (x : Option SupplyReason) : supplyReasonCode x = octetOf (supplyReason x) := by
    rcases x with _ | _ | _ | _ | _ <;> rfl
  have hnotice (n : Notice) : n.octets = (noticeOctets n).map octetOf := by
    cases n with
    | done subject verb outcome =>
      have hv : (0#3 ++ verb.code : Octet) = octetOf (verbCode verb) := (verbOctet_eq verb).trans (by rw [hverb])
      simp only [Notice.octets, hv, houtcome]
      rfl
    | tripped h reason => simp only [Notice.octets, htrip]; rfl
    | supply state reason => simp only [Notice.octets, hsupply, hreason]; rfl
    | stale h | halted h | released h | repairedBase h | repairedOptional h | repairedEnvelope depth | envelopeLost depth
    | short h => rfl
  refine ⟨?_, fun n hn => octets16_eq hn, fun x _ _ => signedOctets16_eq x, ⟨rfl, fun os o => ?_⟩, ?_, hverb, ?_, ⟨rfl, rfl⟩,
    ⟨rfl, rfl, rfl⟩, ?_, ?_, ?_⟩
  · intro s f hs hst hc
    have result {x : VerbResult} (hx : readNoticeAtPort s = x) :
        exec (.readNotice f) s = .next (x.state.replied Verb.readNotice.code f x.status x.payload) :=
      exec_of_result (c := .readNotice) hs trivial rfl hc (by simpa [Command.verb, Verb.SentWrongly] using hst) (.inr rfl) hx
    refine ⟨fun n rest hn => ?_, fun hn => result (readNoticeAtPort_of_nil s hn)⟩
    rw [result (readNoticeAtPort_of_cons s n rest hn), hnotice]
    rfl
  · rw [frameCheck_append]
    rfl
  · intro code h st payload
    rw [← hstatus]
    exact replyFrame_eq code h st payload
  · intro x; cases x <;> rfl
  · intro x; cases x <;> rfl
  · intro x; cases x <;> rfl
  · intro x; rcases x with _ | _ | _ | _ | _ <;> rfl

end Sys2Proof.Machine

namespace Sys2Proof.Machine

/-! ### The order of taking (R102, R105, R110, R111) -/

theorem State.tableIdle_iff (s : State) : s.tableIdle = true ↔ s.passes.inFlight = none ∧ s.passes.wanted = false := by
  simp [State.tableIdle]

theorem TakenNext.idle {s : State} {r : Request} {l : LinkPort} (h : TakenNext s r l) : s.tableIdle = true :=
  s.tableIdle_iff.2 ⟨h.1, h.2.1⟩

theorem TakenNext.next {s : State} {r : Request} {l : LinkPort} (h : TakenNext s r l) : s.link.next = some (r, l) :=
  (LinkPort.next_eq_some _ _ _).2 h.2.2

/-- At an idle table a call sets the wanted flag (R87). -/
theorem TakenNext.call {s : State} {r : Request} {l : LinkPort} (h : TakenNext s r l) :
    s.passes.call = { s.passes with wanted := true } := if_neg (by simp [h.1])

/-- The next request is acted on by the command of its verb (R110). -/
theorem exec_taken {s : State} {r : Request} {l : LinkPort} (h : TakenNext s r l) :
    exec r.body.taking s = .next (({ s with link := l } : State).actOn r) := by
  rw [exec_taking r.body.verb_taking, State.takeIfDue_of_next h.idle h.next, State.takeNext_of_next h.next]

theorem State.takeIfDue_of_not_idle {s : State} (h : ¬s.tableIdle = true) (v : Verb) : s.takeIfDue v = s := by
  unfold State.takeIfDue
  split
  · rfl
  · exact if_neg fun h' => h h'.1

theorem State.takeIfDue_of_none {s : State} (h : s.link.next = none) (v : Verb) : s.takeIfDue v = s := by
  simp only [State.takeIfDue, h]

theorem State.takeIfDue_of_other {s : State} {r : Request} {l : LinkPort} (h : s.link.next = some (r, l)) {v : Verb}
    (hv : r.body.verb ≠ v) : s.takeIfDue v = s := by
  simp only [State.takeIfDue, h]
  exact if_neg fun h' => hv h'.2

/-- Settles O24. -/
theorem requestsAreTakenUrgentFirstAndNeverDuringAPass : Obligations.RequestsAreTakenUrgentFirstAndNeverDuringAPass := by
  intro s v c hc
  rw [exec_taking hc s]
  refine ⟨fun hbusy => ?_, fun hu hn => ?_, fun r l ht => ⟨fun hv => ?_, ?_, fun hu => ?_, fun hu => ?_⟩⟩
  · rw [State.takeIfDue_of_not_idle]
    rw [State.tableIdle_iff]
    rintro ⟨h1, h2⟩
    simp [h1, h2] at hbusy
  · rw [State.takeIfDue_of_none ((LinkPort.next_eq_none _).2 ⟨hu, hn⟩)]
  · rw [State.takeIfDue_of_other ht.next hv]
  · rintro rfl
    rw [State.takeIfDue_of_next ht.idle ht.next, State.takeNext_of_next ht.next]
  · obtain ⟨-, -, ⟨rest, he, rfl⟩ | ⟨he, -⟩⟩ := ht
    · exact ⟨rfl, he⟩
    · exact absurd he hu
  · obtain ⟨-, -, ⟨rest, he, -⟩ | ⟨-, rest, he, rfl⟩⟩ := ht
    · rw [hu] at he; cases he
    · exact ⟨hu, he⟩

/-! ### BIND (R15, R16, R120) -/

theorem ClaimClass.cells_eq (c : ClaimClass) : c.cells = if c = .axis then 2 else 3 := by cases c <;> rfl

/-- A stage of a BIND is in use when a stage map names it (R9, R15). -/
theorem State.stages_used_iff (s : State) (m : StageMap) :
    m.stages.any (fun st => (s.ownerOf st).isSome) = true
      ↔ ∃ k n st, (s.claim k).stageMap = some n ∧ st ∈ n.stages ∧ st ∈ m.stages := by
  rw [← Bool.not_eq_false, State.stages_free_iff]
  push Not
  rfl

/-- The checks of a BIND are made on everything but the port. -/
theorem bindOutcome_link (s : State) (l : LinkPort) (h : Handle) (b : BindFields) :
    bindOutcome { s with link := l } h b = bindOutcome s h b := rfl

theorem bindOutcome_of_free {s : State} {h : Handle} (hu : (s.claim h).state = .unbound) (b : BindFields) :
    bindOutcome s h b = if s.table.safeOff then .safeOff
      else if s.table.standing.state ≠ .normal then .noSupply
      else if b.stageMap.stages.any (fun st => (s.ownerOf st).isSome) then .stageInUse
      else if s.table.g < s.table.floorSum + b.base.floor then .floorConflict
      else if s.memory.free < b.base.cls.cells then .poolFull
      else .ok := if_neg (by rw [hu]; decide)

theorem exec_bindTaken_of_ne {s : State} {h : Handle} {b : BindFields} {l : LinkPort} (ht : TakenNext s ⟨h, .bind b⟩ l)
    {o : DoneOutcome} (ho : bindOutcome s h b = o) (hne : o ≠ .ok) :
    exec .bindTaken s = .next (s.ended l ⟨h, .bind b⟩ o) := by
  subst ho
  refine (exec_taken ht).trans (congrArg _ ?_)
  exact takeBind_of_ne hne

/-- Settles O26: each check is made only when those before it have passed. -/
theorem bindTakenEndsWithFirstFailedCheck : Obligations.BindTakenEndsWithFirstFailedCheck := by
  intro s h b l ht ends inUse noSupply stageInUse conflict full
  have ended {o : DoneOutcome} (ho : bindOutcome s h b = o) (hne : o ≠ .ok) : ends o := exec_bindTaken_of_ne ht ho hne
  have free (hu : ¬inUse) := bindOutcome_of_free (not_not.1 hu) b
  refine ⟨fun hu => ended (if_pos ((ClaimState.bound_iff _).2 hu)) nofun, fun hu h1 => ended ?_ nofun,
    fun hu h1 h2 => ended ?_ nofun, fun hu h1 h2 h3 => ended ?_ nofun, fun hu h1 h2 h3 h4 => ended ?_ nofun,
    fun hu h1 h2 h3 h4 h5 => ended ?_ nofun⟩ <;> rw [free hu]
  · rw [if_pos h1]
  · rw [if_neg (by simp [h1]), if_pos h2]
  · rw [if_neg (by simp [h1]), if_neg h2, if_pos ((s.stages_used_iff _).2 h3)]
  · rw [if_neg (by simp [h1]), if_neg h2, if_neg (mt (s.stages_used_iff _).1 h3), if_pos h4]
  · rw [if_neg (by simp [h1]), if_neg h2, if_neg (mt (s.stages_used_iff _).1 h3), if_neg h4, if_pos]
    rw [ClaimClass.cells_eq]
    exact h5

theorem State.modChannel_modChannel (s : State) {a p : Stage} (hp : p ≠ a) (f g : Channel → Channel) :
    (s.modChannel a f).modChannel p g = { s with
      channels := (s.channels.set a.val (f (s.channel a)) a.isLt).set p.val (g (s.channel p)) p.isLt } := by
  have e : (s.modChannel a f).channel p = s.channel p := by rw [State.channel_modChannel, if_neg hp]
  rw [State.modChannel, e]
  rfl

/-- Settles O25: the checks pass, the claim is created, and a fault input already asserted trips it after its notice. -/
theorem bindTakenCreatesTheClaim : Obligations.BindTakenCreatesTheClaim := by
  intro s h b l ht hadm hu hoff hnormal hfree hfloor cells hcells fresh partner channels1 bound faulted
  have hok : bindOutcome s h b = .ok := by
    rw [bindOutcome_of_free hu, if_neg (by simp [hoff]), if_neg (by simp [hnormal]), if_neg, if_neg (Nat.not_lt.2 hfloor),
      if_neg]
    · rw [ClaimClass.cells_eq]
      exact Nat.not_lt.2 hcells
    · rw [State.stages_used_iff]
      rintro ⟨k, m, st, hm, h1, h2⟩
      exact hfree k m st hm h1 h2
  have hpartner : b.stageMap.partner = partner := by
    simp only [partner, BindFields.stageMap]
    rcases b.optional with _ | _ | _ <;> rfl
  have hcreated : (({ s with link := l } : State).createClaim h b).done ⟨h, .bind b⟩ .ok = bound := by
    have hclaim : b.claim = { Claim.unbound with
        state := .run, stageMap := some ⟨b.base.cls, b.primary, partner⟩, condition := some .intact
        floorHeld := some b.base.floor, refreshWindow := some b.base.refreshWindow
        refreshTimer := .running b.base.refreshWindow } := by
      rw [← hpartner]; rfl
    unfold State.createClaim
    dsimp only [bound]
    rw [hclaim, hpartner, ClaimClass.cells_eq, ← ht.call]
    cases hp : partner with
    | none => rfl
    | some p =>
      have hne : p ≠ b.primary := fun e => BindFields.partner_ne hadm (by rw [hpartner, hp, e])
      dsimp only
      rw [State.modChannel_modChannel _ hne]
      rfl
  have htaken : exec .bindTaken s = .next (bound.tripIfFaulted h b.stageMap) := by
    refine (exec_taken ht).trans (congrArg _ ?_)
    refine (takeBind_of_ok (s := { s with link := l }) hok).trans ?_
    rw [hcreated]
  have hfault : b.stageMap.stages.any (fun st => s.inputs.stageFaults.get st) = true ↔ faulted := by
    rw [List.any_eq_true]
    rfl
  refine ⟨fun hf => ?_, fun hf => ?_⟩
  · rw [htaken]
    exact congrArg _ (if_neg (mt hfault.1 hf))
  · rw [htaken]
    exact congrArg _ (if_pos (hfault.2 hf))

end Sys2Proof.Machine

namespace Sys2Proof.Machine

/-! ### Stages changed beside changes of other blocks -/

theorem State.onStages_eq (s : State) (m : Option StageMap) (f : Channel → Channel) :
    s.onStages m f = { s with channels := (s.onStages m f).channels } :=
  State.eq_of_blocks (by simp) (by simp) (by simp) (by simp) (by simp) rfl (by simp) (by simp) (by simp) (by simp)

theorem State.onStages_channels_congr {s t : State} (h : s.channels = t.channels) (m : StageMap) (f : Channel → Channel) :
    (s.onStages (some m) f).channels = (t.onStages (some m) f).channels := by
  have fold (sts : List Stage) (s t : State) (h : s.channels = t.channels) :
      (sts.foldl (fun s st => s.modChannel st f) s).channels = (sts.foldl (fun s st => s.modChannel st f) t).channels := by
    induction sts generalizing s t with
    | nil => exact h
    | cons st sts ih =>
      refine ih _ _ ?_
      simp only [State.modChannel, State.setChannel, State.channel, h]
  exact fold m.stages s t h

/-- A notice posted before or after the stages change. -/
theorem State.onStages_post (s : State) (m : StageMap) (f : Channel → Channel) (n : Notice) :
    (s.post n).onStages (some m) f = (s.onStages (some m) f).post n := by
  rw [State.onStages_eq, State.onStages_eq s, State.onStages_channels_congr (s := s.post n) (t := s) rfl]
  rfl

/-! ### MODIFY (R18, R19) -/

theorem takeModify_of_unbound {s : State} {h : Handle} (m : ModifyFields) (hu : (s.claim h).state = .unbound) :
    takeModify s h m = s.done ⟨h, .modify m⟩ .noClaim := if_pos hu

theorem takeModify_of_wrongState {s : State} {h : Handle} (m : ModifyFields) (hu : (s.claim h).state ≠ .unbound)
    (hw : (s.claim h).state = .tripped ∨ (s.claim h).condition = some .lost) :
    takeModify s h m = s.done ⟨h, .modify m⟩ .wrongState := (if_neg hu).trans (if_pos hw)

/-- A read of a base part leaves the optional part. -/
theorem State.readBase_optional (s : State) (h : Handle) :
    ((s.readBase h).2.recordsOf h).optional = (s.recordsOf h).optional := by
  rcases s.readBase_cases h with e | ⟨p, v, -, -, -, e⟩ <;> rw [e]
  rw [State.recordsOf_countRepair, State.recordsOf_setRecords_self]

theorem State.modified_of_conflict {s : State} {h : Handle} {m : ModifyFields} {r : BaseRecord}
    (hf : s.table.g < s.table.floorSum - (s.claim h).floorHeld.getD 0 + (m.apply r).floor) :
    s.modified h m r = s.done ⟨h, .modify m⟩ .floorConflict := by
  simp only [State.modified, modifyOutcome, if_pos hf]

theorem State.modified_of_limits {s : State} {h : Handle} {m : ModifyFields} {r : BaseRecord}
    (hf : ¬s.table.g < s.table.floorSum - (s.claim h).floorHeld.getD 0 + (m.apply r).floor)
    (hl : (m.apply r).tripLevel ≤ (m.apply r).currentLimit ∨ (m.apply r).currentLimit < (m.apply r).holdDemand.natAbs) :
    s.modified h m r = s.done ⟨h, .modify m⟩ .limitConflict := by
  simp only [State.modified, modifyOutcome, if_neg hf, if_pos hl]

theorem State.modified_of_ok {s : State} {h : Handle} {m : ModifyFields} {r : BaseRecord}
    (hf : ¬s.table.g < s.table.floorSum - (s.claim h).floorHeld.getD 0 + (m.apply r).floor)
    (hl : ¬((m.apply r).tripLevel ≤ (m.apply r).currentLimit ∨ (m.apply r).currentLimit < (m.apply r).holdDemand.natAbs)) :
    s.modified h m r = { (s.rewriteBase h (m.apply r)).done ⟨h, .modify m⟩ .ok with
      passes := if r.callsForPass (m.apply r) = true then s.passes.call else s.passes } := by
  simp only [State.modified, modifyOutcome, if_neg hf, if_neg hl]
  split <;> rfl

/-- Settles O27. -/
theorem modifyTakenRewritesTheBasePart : Obligations.ModifyTakenRewritesTheBasePart := by
  intro s h m l ht c taken done
  have result {t : State} (hx : takeModify taken h m = t) : exec .modifyTaken s = .next t := by
    rw [← hx]; exact exec_taken ht
  refine ⟨fun hu => result (takeModify_of_unbound m hu), fun hu hw => result (takeModify_of_wrongState m hu hw),
    fun s' hu htr hl hr => ?_, fun r s' hu htr hl hr => ?_⟩
  · refine (result (takeModify_of_none hu (by tauto) hr)).trans (congrArg _ ?_)
    rw [State.recordLost_of_bound (s := taken) hu]
    rfl
  · have read := result (takeModify_of_some hu (not_or.2 ⟨htr, hl⟩) hr)
    have hs' : s' = (taken.readBase h).2 := by rw [hr]
    have hclaims : s'.claims = s.claims := by rw [hs', State.readBase_claims]
    have hclaim : s'.claim h = s.claim h := State.claim_congr hclaims h
    have htable : s'.table = s.table := by rw [hs', State.readBase_table]
    have hpasses : s'.passes = s.passes := by rw [hs', State.readBase_passes]
    have hchannels : s'.channels = s.channels := by rw [hs', State.readBase_channels]
    have hoptional : (s'.recordsOf h).optional = (s.recordsOf h).optional := by
      rw [hs', State.readBase_optional]; rfl
    intro r' others conflict limits differs
    refine ⟨fun hf => ?_, fun hf hlim => ?_, fun hf hlim => ?_⟩
    · refine read.trans (congrArg _ (State.modified_of_conflict ?_))
      rw [htable, hclaim]; exact hf
    · refine read.trans (congrArg _ (State.modified_of_limits ?_ hlim))
      rw [htable, hclaim]; exact hf
    · refine read.trans (congrArg _ ((State.modified_of_ok ?_ hlim).trans ?_))
      · rw [htable, hclaim]; exact hf
      · have hdiffers : (r.callsForPass (m.apply r) = true) = differs := by
          simp only [BaseRecord.callsForPass, decide_eq_true_eq]
          rfl
        rw [hpasses, ht.call]
        simp only [hdiffers]
        unfold State.rewriteBase
        dsimp only [State.done, State.post, State.setClaim, State.setRecords]
        rw [hclaims, htable, hclaim, hoptional]
        rfl

end Sys2Proof.Machine

namespace Sys2Proof.Machine

/-! ### RETIRE (R37, R38, R41) -/

theorem takeRetire_of_unbound {s : State} {h : Handle} (hs : (s.claim h).state = .unbound) :
    takeRetire s h = s.done ⟨h, .retire⟩ .noClaim := by simp only [takeRetire, hs]

theorem takeRetire_of_running {s : State} {h : Handle} (hs : (s.claim h).state = .run ∨ (s.claim h).state = .stale) :
    takeRetire s h = (s.enterReleasing h).done ⟨h, .retire⟩ .ok := by
  rcases hs with hs | hs <;> simp only [takeRetire, hs]

theorem takeRetire_of_wrongState {s : State} {h : Handle}
    (hs : (s.claim h).state = .releasing ∨ (s.claim h).state = .braking) :
    takeRetire s h = s.done ⟨h, .retire⟩ .wrongState := by
  rcases hs with hs | hs <;> simp only [takeRetire, hs]

theorem takeRetire_of_stopped {s : State} {h : Handle}
    (hs : (s.claim h).state = .halted ∨ (s.claim h).state = .tripped) :
    takeRetire s h = (s.freeClaim h).done ⟨h, .retire⟩ .ok := by
  rcases hs with hs | hs <;> simp only [takeRetire, hs]

theorem State.enterReleasing_of_map {s : State} {h : Handle} {m : StageMap} (hm : (s.claim h).stageMap = some m) :
    s.enterReleasing h = (s.setClaim h (s.claim h).releasing).modChannel m.primary
      (fun k => { k with ramped := (s.claim h).demand }) := by
  simp only [State.enterReleasing, hm, Claim.releasing]

/-- Settles O28. -/
theorem retireTakenStartsReleaseOrFrees : Obligations.RetireTakenStartsReleaseOrFrees := by
  intro s h l ht c
  have result {t : State} (hx : takeRetire { s with link := l } h = t) : exec .retireTaken s = .next t := by
    rw [← hx]; exact exec_taken ht
  refine ⟨fun hu => result (takeRetire_of_unbound hu), fun m hs hm => ?_, fun hs => result (takeRetire_of_wrongState hs),
    fun hs => result (takeRetire_of_stopped hs)⟩
  refine (result (takeRetire_of_running hs)).trans ?_
  rw [State.enterReleasing_of_map (s := { s with link := l }) hm]
  rfl

/-! ### RESUME (R34 to R36) -/

theorem resumeOutcome_of_bound {s : State} {h : Handle} (hb : (s.claim h).state ≠ .unbound) :
    resumeOutcome s h = if s.table.safeOff then .safeOff
      else if (s.claim h).state ≠ .stale ∧ (s.claim h).state ≠ .halted then .wrongState
      else if s.table.standing.state ≠ .normal then .noSupply
      else .ok := if_neg hb

theorem takeResume_of_outcome {s : State} {h : Handle} {o : DoneOutcome} (ho : resumeOutcome s h = o) (hne : o ≠ .ok) :
    takeResume s h = s.done ⟨h, .resume⟩ o := by
  subst ho
  exact takeResume_of_ne hne

theorem State.resumeClaim_of_stale {s : State} {h : Handle} {w : Nat} (hs : (s.claim h).state = .stale)
    (hw : (s.claim h).refreshWindow = some w) :
    s.resumeClaim h = (s.setClaim h { s.claim h with
      state := .run, demand := 0, estimate := 0, side := .drive, refreshTimer := .running w }).callForPass := by
  simp only [State.resumeClaim, hs, hw, Option.getD_some]
  rfl

theorem State.resumeClaim_of_halted {s : State} {h : Handle} {w : Nat} (hs : (s.claim h).state = .halted)
    (hw : (s.claim h).refreshWindow = some w) :
    s.resumeClaim h = ((s.setClaim h { s.claim h with
      state := .run, demand := 0, estimate := 0, side := .drive, refreshTimer := .running w }).callForPass).onStages
        (s.claim h).stageMap (fun k => { k with mode := .regulate, integrator := 0, imbalance := 0, brakeEngaged := false }) := by
  simp only [State.resumeClaim, hs, hw, Option.getD_some]
  rfl

/-- Settles O29. -/
theorem resumeTakenReturnsTheClaimToRun : Obligations.ResumeTakenReturnsTheClaimToRun := by
  intro s h l ht c ends resumed off normal
  let taken : State := { s with link := l }
  have result {t : State} (hx : takeResume taken h = t) : exec .resumeTaken s = .next t := by
    rw [← hx]; exact exec_taken ht
  have ended {o : DoneOutcome} (ho : resumeOutcome taken h = o) (hne : o ≠ .ok) : ends o :=
    result (takeResume_of_outcome ho hne)
  have checks (hu : c.state ≠ .unbound) : resumeOutcome taken h = if s.table.safeOff = true then .safeOff
      else if c.state ≠ .stale ∧ c.state ≠ .halted then .wrongState
      else if s.table.standing.state ≠ .normal then .noSupply else .ok := resumeOutcome_of_bound (s := taken) hu
  have bound (hs : c.state = .stale ∨ c.state = .halted) : c.state ≠ .unbound := by
    rcases hs with e | e <;> rw [e] <;> decide
  have resumable (hs : c.state = .stale ∨ c.state = .halted) : ¬(c.state ≠ .stale ∧ c.state ≠ .halted) := by tauto
  have ok (hs : c.state = .stale ∨ c.state = .halted) (ho : ¬off) (hn : normal) : resumeOutcome taken h = .ok := by
    rw [checks (bound hs), if_neg ho, if_neg (resumable hs), if_neg (not_not.2 hn)]
  refine ⟨fun hu => ended (if_pos hu) nofun, fun hu ho => ended ?_ nofun, fun hu ho h1 h2 => ended ?_ nofun,
    fun hs ho hn => ended ?_ nofun, fun w hs hw ho hn => ?_, fun w m hs hw hm ho hn => ?_⟩
  · rw [checks hu, if_pos ho]
  · rw [checks hu, if_neg ho, if_pos ⟨h1, h2⟩]
  · rw [checks (bound hs), if_neg ho, if_neg (resumable hs), if_pos hn]
  · refine (result (takeResume_of_ok (ok (.inl hs) ho hn))).trans (congrArg _ ?_)
    rw [State.resumeClaim_of_stale (s := taken) hs hw]
    simp only [resumed, ← ht.call]
    rfl
  · refine (result (takeResume_of_ok (ok (.inr hs) ho hn))).trans (congrArg _ ?_)
    rw [State.resumeClaim_of_halted (s := taken) hs hw, show (taken.claim h).stageMap = some m from hm, State.done,
      ← State.onStages_post]
    simp only [resumed, ← ht.call]
    rfl

/-! ### PUSH and POP (R62, R64, R70 to R73) -/

theorem takePush_of_outcome {s : State} {h : Handle} {e : Envelope} {o : DoneOutcome} (ho : pushOutcome s e = o)
    (hne : o ≠ .ok) : takePush s h e = s.done ⟨h, .push e⟩ o := by
  subst ho
  exact takePush_of_ne hne

/-- Settles O30. -/
theorem pushTakenPutsTheEnvelopeOnTop : Obligations.PushTakenPutsTheEnvelopeOnTop := by
  intro s h e l ht ends depth pushed
  let taken : State := { s with link := l }
  have result {t : State} (hx : takePush taken h e = t) : exec .pushTaken s = .next t := by
    rw [← hx]; exact exec_taken ht
  have ended {o : DoneOutcome} (ho : pushOutcome taken e = o) (hne : o ≠ .ok) : ends o :=
    result (takePush_of_outcome ho hne)
  have room (hd : depth < 8) : ¬Config.stackPlaces ≤ taken.table.stack.length := Nat.not_le.2 hd
  refine ⟨fun hd => ended (if_pos hd) nofun, fun hd hf => ended ?_ nofun, fun hd hf hg => ended ?_ nofun, fun hd hf hg => ?_⟩
  · rw [pushOutcome, if_neg (room hd), if_pos hf]
  · rw [pushOutcome, if_neg (room hd), if_neg hf, if_pos hg]
  · have ok : pushOutcome taken e = .ok := by
      rw [pushOutcome, if_neg (room hd), if_neg hf, if_neg (Nat.not_lt.2 hg)]
    exact result (takePush_of_ok ok)

theorem takePop_of_base {s : State} {h : Handle} {tag : Nat} (hd : s.table.stack.length ≤ 1) :
    takePop s h tag = s.done ⟨h, .pop tag⟩ .baseOnly := if_pos hd

theorem takePop_of_tag {s u : State} {h : Handle} {tag : Nat} {e : Envelope} (hd : 1 < s.table.stack.length)
    (hr : s.readEnvelope s.table.stack.length = (.values e, u)) (he : e.tag = tag) :
    takePop s h tag = (u.popEntry.recompute).done ⟨h, .pop tag⟩ .ok := by
  simp only [takePop, if_neg (Nat.not_le.2 hd), State.readEnvelopeAndRecompute, hr, if_pos he]

theorem takePop_of_mismatch {s u : State} {h : Handle} {tag : Nat} {e : Envelope} (hd : 1 < s.table.stack.length)
    (hr : s.readEnvelope s.table.stack.length = (.values e, u)) (he : e.tag ≠ tag) :
    takePop s h tag = u.done ⟨h, .pop tag⟩ .tagMismatch := by
  simp only [takePop, if_neg (Nat.not_le.2 hd), State.readEnvelopeAndRecompute, hr, if_neg he]

theorem takePop_of_lostNow {s u : State} {h : Handle} {tag : Nat} (hd : 1 < s.table.stack.length)
    (hr : s.readEnvelope s.table.stack.length = (.lost true, u)) :
    takePop s h tag = (u.recompute.popEntry.recompute).done ⟨h, .pop tag⟩ .ok := by
  simp only [takePop, if_neg (Nat.not_le.2 hd), State.readEnvelopeAndRecompute, hr]

theorem takePop_of_lost {s u : State} {h : Handle} {tag : Nat} (hd : 1 < s.table.stack.length)
    (hr : s.readEnvelope s.table.stack.length = (.lost false, u)) :
    takePop s h tag = (u.popEntry.recompute).done ⟨h, .pop tag⟩ .ok := by
  simp only [takePop, if_neg (Nat.not_le.2 hd), State.readEnvelopeAndRecompute, hr]

/-- Settles O31. -/
theorem popTakenRemovesTheTopEnvelope : Obligations.PopTakenRemovesTheTopEnvelope := by
  intro s h tag l ht depth popped read
  have result {t : State} (hx : takePop { s with link := l } h tag = t) : exec .popTaken s = .next t := by
    rw [← hx]; exact exec_taken ht
  exact ⟨fun hd => result (takePop_of_base hd), fun e t hd hr he => result (takePop_of_tag hd hr he),
    fun e t hd hr he => result (takePop_of_mismatch hd hr he), fun t hd hr => result (takePop_of_lostNow hd hr),
    fun t hd hr => result (takePop_of_lost hd hr)⟩

end Sys2Proof.Machine

namespace Sys2Proof.Machine

/-! ### The budgets and their recomputation (R62, R66, R75, R76) -/

/-- Settles O32. -/
theorem recomputedBudgetsLowerGrantsAtOnce : Obligations.RecomputedBudgetsLowerGrantsAtOnce := by
  refine ⟨fun _ => rfl, fun _ => State.formBudgets_of_nil, fun s below top hstack => ?_, fun s b => ?_⟩
  · intro st formed p q stack depth
    have hform := State.formBudgets_of_ne (s := s) (by rw [hstack]; simp)
    have htop : s.table.stack[s.table.stack.length - 1]? = some top := by rw [hstack]; simp
    have hdepth : s.table.stack.length = depth := by rw [hstack]; simp [depth]
    have hset (x : StackEntry) : s.table.stack.set (depth - 1) x = below ++ [x] := by simp [hstack, depth]
    refine ⟨fun hl => ?_, fun hc hp => ?_, fun hc hp hq => ?_, fun hc hp hq => ?_⟩
    · rw [hform, State.readEnvelope_of_lost htop hl]
      rfl
    · rw [hform, State.readEnvelope_eq htop hc, Part.outcome_of_primary hp]
      rfl
    · rw [hform, State.readEnvelope_eq htop hc, Part.outcome_of_shadow hp hq]
      simp only [State.setEntry, hset, hdepth, Part.repair]
      rfl
    · rw [hform, State.readEnvelope_eq htop hc, Part.outcome_of_neither hp hq]
      simp only [State.setEntry, hset, hdepth]
      rfl
  · intro old t fell p
    exact ⟨s.applyBudgets_table b, s.applyBudgets_passes b, s.applyBudgets_claim b, by simp [t], by simp [t], by simp [t],
      by simp [t], by simp [t], by simp [t], by simp [t]⟩

/-! ### Pass start (R88 to R90) -/

/-- The table's reads of a list of live claims, each named by what its read finds. -/
theorem tableReads_eq (r : Handle → Option BaseRecord) (read : State → Handle → State)
    (hread : ∀ (u : State) (h : Handle), (u.claim h).state.live = true → (u.readBase h).1 = r h →
      (u.tableRead h).2 = read u h)
    (hs : List Handle) (hn : hs.Nodup) (s : State)
    (hfound : ∀ h ∈ hs, (s.claim h).state.live = true ∧ (s.readBase h).1 = r h) :
    hs.foldl (fun u h => (u.tableRead h).2) s = hs.foldl read s := by
  induction hs generalizing s with
  | nil => rfl
  | cons h hs ih =>
    obtain ⟨hh, hn⟩ := List.nodup_cons.1 hn
    obtain ⟨hl, hr⟩ := hfound h List.mem_cons_self
    rw [List.foldl_cons, List.foldl_cons, ← hread s h hl hr]
    refine ih hn _ fun k hk => ?_
    have hne : k ≠ h := fun e => hh (e ▸ hk)
    obtain ⟨hlk, hrk⟩ := hfound k (List.mem_cons_of_mem h hk)
    rw [s.tableRead_claim_of_ne h k hne, State.readBase_fst_congr (s.tableRead_recordsOf_of_ne hne)]
    exact ⟨hlk, hrk⟩

/-- What a checked read of a base part gives, from its two copies (R57 to R59). -/
theorem State.readBase_fst {s : State} {h : Handle} {p : Part BaseRecord} (hp : (s.recordsOf h).base = some p) :
    (s.readBase h).1 = if p.primary.good then some p.primary.value
      else if p.shadow.good then some p.shadow.value else none := by
  rw [State.readBase_eq hp]
  cases h1 : p.primary.good with
  | true => rw [Part.outcome_of_primary h1]; rfl
  | false =>
    cases h2 : p.shadow.good with
    | true => rw [Part.outcome_of_shadow h1 h2]; rfl
    | false => rw [Part.outcome_of_neither h1 h2]; rfl

theorem exec_passStart_of_not_due {s : State} (h : s.passDue = false) : exec .passStart s = .next s := by
  show Host.Outcome.next (if s.passDue then s.startPass else s) = _
  rw [if_neg (by simp [h])]

/-- Settles O33. -/
theorem passStartSnapshotsTheLiveClaims : Obligations.PassStartSnapshotsTheLiveClaims := by
  intro s
  refine ⟨fun hbusy => exec_passStart_of_not_due ?_, ?_⟩
  · rcases hbusy with h | h
    · simp [State.passDue, h]
    · simp [State.passDue, Option.isNone_eq_false_iff.2 h]
  intro r hw hi hr entry read t
  have found (h : Handle) (hl : (s.claim h).state.live = true) : (s.readBase h).1 = r h := by
    obtain ⟨p, hp, e⟩ := hr h hl
    rw [e, State.readBase_fst hp]
  have entries : s.entryFor = entry := by
    funext h
    simp only [State.entryFor, entry]
    split
    · rw [found h ‹_›]; rfl
    · rfl
  have reads : s.readLive = t := by
    refine tableReads_eq r read (fun u h hl hu => ?_) _ (Handle.all_nodup.filter _) s fun h hh => ?_
    · simp only [read]
      cases hrh : r h with
      | none =>
        rw [hrh] at hu
        rw [State.tableRead_of_none (State.readBase_of_none hu),
          State.recordLost_of_bound (ClaimState.ne_of_live hl).1]
        rfl
      | some x =>
        rw [hrh] at hu
        rw [State.tableRead_of_some (Prod.ext hu rfl)]
        rfl
    · have hl : (s.claim h).state.live = true := by simpa using (List.mem_filter.1 hh).2
      exact ⟨hl, found h hl⟩
  have slacks : s.readLive.passes.driveSlack = s.passes.driveSlack
      ∧ s.readLive.passes.returnSlack = s.passes.returnSlack := by
    rcases (Eased.readLive s).passes with e | e <;> rw [e]
    · exact ⟨rfl, rfl⟩
    · exact ⟨PassBook.call_driveSlack _, PassBook.call_returnSlack _⟩
  rw [reads] at slacks
  rw [exec_passStart_of_due (by simp [State.passDue, hw, hi]), State.startPass_eq]
  simp only [State.snapshot, entries, reads, slacks.1, slacks.2]

/-! ### Pass completion (R96, R102, R104) -/

theorem exec_passCompletion_of_none {s : State} (hs : s.settled = true) (h : s.passes.inFlight = none) :
    exec .passCompletion s = .next s := by
  simp only [exec, execPassCompletion, State.settle_of_settled hs, h]

theorem exec_passCompletion_of_some {s : State} (hs : s.settled = true) {p : Pass} (h : s.passes.inFlight = some p) :
    exec .passCompletion s = .next (s.completePass p) := by
  simp only [exec, execPassCompletion, State.settle_of_settled hs, h]

theorem State.takeNext_of_none {s : State} (h : s.link.next = none) : s.takeNext = s := by
  simp only [State.takeNext, h]

/-- Settles O34. -/
theorem passCompletionPublishesUnlessVoid : Obligations.PassCompletionPublishesUnlessVoid := by
  intro s hs
  refine ⟨exec_passCompletion_of_none hs, ?_⟩
  intro p hp hn u idle after
  have hidle : s.completed p = idle := rfl
  have completed {t : State} (ht : idle.takeNext = t) : exec .passCompletion s = .next (after t) := by
    rw [exec_passCompletion_of_some hs hp, State.completePass_eq, hidle, ht]
  have taken {r : Request} {l : LinkPort} (hl : s.link.next = some (r, l)) :
      exec .passCompletion s = .next (after (({ idle with link := l } : State).actOn r)) := by
    refine completed (State.takeNext_of_next ?_)
    rw [← hidle, State.completed_link, hl]
  refine ⟨fun hu hn => completed (State.takeNext_of_none ?_), fun r rest hu => taken ?_, fun r rest hu hn => taken ?_,
    fun g hg hl => publishLines_claim_of_mem p.grants hn s hg hl, fun h hh => publishLines_claim_of_not_mem p.grants s h hh,
    (s.publish p).claims, ?_⟩
  · rw [← hidle, State.completed_link]
    exact (LinkPort.next_eq_none _).2 ⟨hu, hn⟩
  · exact (LinkPort.next_eq_some _ _ _).2 (.inl ⟨rest, hu, rfl⟩)
  · exact (LinkPort.next_eq_some _ _ _).2 (.inr ⟨hu, rest, hn, rfl⟩)
  · refine State.eq_of_blocks (by simp) rfl (by simp) ?_ (by simp) (by simp) (by simp) (by simp) (by simp) (by simp)
    simp [State.publish]

end Sys2Proof.Machine

namespace Sys2Proof.Machine

/-! ### The supply fails (R44, R82) -/

theorem dropLast_set_last {α : Type} (l : List α) (x : α) : (l.set (l.length - 1) x).dropLast = l.dropLast := by
  rw [List.dropLast_eq_take, List.dropLast_eq_take, List.length_set, List.take_set_of_le (Nat.le_refl _)]

/-- The read of the top entry leaves the entries below it (R75). -/
theorem State.formBudgets_dropLast (s : State) : s.formBudgets.2.table.stack.dropLast = s.table.stack.dropLast := by
  by_cases h : s.table.stack = []
  · rw [State.formBudgets_of_nil h]
  rw [State.formBudgets_of_ne h]
  rcases s.readEnvelope_cases s.table.stack.length with e | ⟨_, -, -, e | e⟩ <;> rw [e]
  · exact dropLast_set_last _ _
  · exact dropLast_set_last _ _

theorem State.supplyFaulted_eq (s : State) (drive ret : Nat) :
    let u := (s.setStanding ⟨.fault, drive, ret⟩).formBudgets
    s.supplyFaulted drive ret = { u.2 with
      claims := (s.supplyFaulted drive ret).claims, passes := (s.supplyFaulted drive ret).passes
      table := { u.2.table with budgets := u.1 } } :=
  State.eq_of_blocks (by simp [State.supplyFaulted]) rfl (s.supplyFaulted_table drive ret) rfl
    (by simp [State.supplyFaulted]) (by simp [State.supplyFaulted]) (by simp [State.supplyFaulted])
    (by simp [State.supplyFaulted]) (by simp [State.supplyFaulted]) (by simp [State.supplyFaulted])

/-- The live claims at a supply fault (R44). -/
abbrev State.liveClaims (s : State) : List Handle := Handle.all.filter (fun h => (s.claim h).state.live)

theorem State.mem_liveClaims (s : State) (h : Handle) : h ∈ s.liveClaims ↔ (s.claim h).state.live = true := by
  simp [State.liveClaims, Handle.mem_all]

theorem State.supplyFault_eq_brakings (s : State) (drive ret : Nat) :
    s.supplyFault drive ret = (s.supplyFaulted drive ret).enterBrakings s.liveClaims := by
  have live (h : Handle) : ((s.supplyFaulted drive ret).claim h).state = (s.claim h).state := by
    rw [State.supplyFaulted_claim]; rfl
  rw [State.supplyFault_eq, State.brakeAll_eq_foldl _ _ Handle.all_nodup]
  simp only [live]

theorem State.supplyFault_table (s : State) (drive ret : Nat) :
    let u := (s.setStanding ⟨.fault, drive, ret⟩).formBudgets
    (s.supplyFault drive ret).table = { s.table with
      stack := u.2.table.stack, budgets := u.1, standing := ⟨.fault, drive, ret⟩ } := by
  intro u
  rw [State.supplyFault_eq_brakings, (State.enterBrakings_frame _ _).1, State.supplyFaulted_table,
    State.formBudgets_table]
  rfl

/-- A claim that was live has entered BRAKING, or tripped on the way, and holds no grant (R44). -/
theorem State.supplyFault_claim_of_live {s : State} {drive ret : Nat} {h : Handle} (hl : (s.claim h).state.live = true) :
    (((s.supplyFault drive ret).claim h).state = .braking ∨ ((s.supplyFault drive ret).claim h).state = .tripped)
      ∧ ((s.supplyFault drive ret).claim h).driveGrant = 0 ∧ ((s.supplyFault drive ret).claim h).returnGrant = 0 := by
  rw [State.supplyFault_eq_brakings]
  refine State.enterBrakings_entered _ (Handle.all_nodup.filter _) ((s.mem_liveClaims h).2 hl) ?_
  rw [State.supplyFaulted_claim]
  exact hl

theorem State.supplyFault_claim_of_not_live {s : State} {drive ret : Nat} {h : Handle}
    (hl : (s.claim h).state.live = false) : (s.supplyFault drive ret).claim h = (s.claim h).zeroGrants := by
  rw [State.supplyFault_eq_brakings, State.enterBrakings_claim_of_not_mem, State.supplyFaulted_claim]
  rw [State.mem_liveClaims, hl]
  exact Bool.false_ne_true

theorem State.supplyFault_passes (s : State) (drive ret : Nat) : (s.supplyFault drive ret).passes
    = if s.passes.inFlight.isSome = true then { s.passes with void := true, rerun := true }
      else { s.passes with wanted := true } := by
  have live : ∀ h ∈ s.liveClaims, ((s.supplyFaulted drive ret).claim h).state.live = true := fun h hh => by
    rw [State.supplyFaulted_claim]
    exact (s.mem_liveClaims h).1 hh
  rw [State.supplyFault_eq_brakings, State.enterBrakings_passes _ (Handle.all_nodup.filter _) live,
    State.supplyFaulted_passes]
  have called : ∀ b : PassBook, (if b.inFlight.isSome = true then { b with void := true, rerun := true }
      else { b with wanted := true }).call = if b.inFlight.isSome = true then { b with void := true, rerun := true }
      else { b with wanted := true } := by
    intro b
    cases hb : b.inFlight.isSome <;> simp [PassBook.call, hb]
  rw [called, ite_self]

/-- Settles O50. -/
theorem supplyFaultLeavesNoGrantAndNoLiveClaim : Obligations.SupplyFaultLeavesNoGrantAndNoLiveClaim := by
  intro s drive ret t posted read moved passes
  have table : t.table = { s.table with
      stack := read.table.stack, budgets := posted.formBudgets.1, standing := ⟨.fault, drive, ret⟩ } :=
    s.supplyFault_table drive ret
  obtain ⟨hdrive, hret⟩ := State.formBudgets_not_normal (s := posted) nofun
  refine ⟨by rw [table], by rw [table]; exact hdrive, by rw [table]; exact hret, by rw [table], ?_, by rw [table], ?_, ?_,
    ⟨(s.supplyFaulted drive ret).claims, s.supplyFaulted_claim drive ret, ?_⟩, fun h => ?_,
    fun h hl => (State.supplyFault_claim_of_live hl).1, fun h hl => State.supplyFault_claim_of_not_live hl,
    s.supplyFault_passes drive ret, by simp [t], by simp [t], by simp [t]⟩
  · intro below top hstack hc hp
    obtain ⟨-, -, hformed, -⟩ := recomputedBudgetsLowerGrantsAtOnce
    obtain ⟨-, hgood, -⟩ := hformed posted below top hstack
    have hread := hgood hc hp
    rw [table]
    refine ⟨?_, ?_⟩
    · rw [hread]; rfl
    · rw [show read = posted from congrArg Prod.snd hread]
  · rw [table]
    exact (EnvelopeReads.supplyFaulted s drive ret).depth
  · rw [table]
    exact posted.formBudgets_dropLast
  · have faulted := s.supplyFaulted_eq drive ret
    rw [s.supplyFaulted_passes drive ret] at faulted
    refine (s.supplyFault_eq_brakings drive ret).trans ?_
    rw [faulted]
    rfl
  · cases hl : (s.claim h).state.live with
    | true =>
      obtain ⟨-, h1, h2⟩ := State.supplyFault_claim_of_live (drive := drive) (ret := ret) hl
      exact ⟨h1, h2, s.supplyFault_not_live drive ret h⟩
    | false =>
      refine ⟨?_, ?_, s.supplyFault_not_live drive ret h⟩ <;> rw [State.supplyFault_claim_of_not_live hl] <;> rfl

end Sys2Proof.Machine

namespace Sys2Proof.Machine

/-! ### The supply frame (R144, R145, R176) -/

/-- The octets that a supply frame's check covers (9.10.4). -/
def supplyBody (a b : Nat) (ready : Bool) : List Octet := octets16 a ++ octets16 b ++ [markOctet ready]

/-- A good supply frame (R176). -/
def supplyFrame (a b : Nat) (ready : Bool) : List LineChar :=
  clean (supplyBody a b ready ++ wordOctets (frameCheck (supplyBody a b ready)))

theorem parseSupplyFrame_supplyFrame {a b : Nat} (ready : Bool) (ha : a ≤ 4000) (hb : b ≤ 4000) :
    parseSupplyFrame (supplyFrame a b ready) = some ⟨a, b, ready⟩ := by
  have ea := u16_octets16 a (by omega)
  have eb := u16_octets16 b (by omega)
  have check : frameCheck (supplyBody a b ready) = (frameCheck (supplyBody a b ready)).extractLsb' 8 8
      ++ (frameCheck (supplyBody a b ready)).extractLsb' 0 8 := (word_of_octets _).symm
  unfold parseSupplyFrame supplyFrame
  rw [clean_unfaulted, clean_octets, if_neg Bool.false_ne_true]
  simp only [supplyBody, octets16, wordOctets, List.cons_append, List.nil_append, ea, eb] at check ⊢
  rw [if_pos ⟨check, ha, hb⟩]
  cases ready <;> rfl

/-- The frames that are taken as good are those laid out so (R145, R176). -/
theorem supplyFrame_of_parse {chars : List LineChar} {f : SupplyFields} (h : parseSupplyFrame chars = some f) :
    f.drive ≤ 4000 ∧ f.ret ≤ 4000 ∧ chars = supplyFrame f.drive f.ret f.ready := by
  unfold parseSupplyFrame at h
  split at h
  · cases h
  rename_i hclean
  split at h
  · rename_i a b c d r hi lo hchars
    split at h
    · rename_i hgood
      obtain ⟨hcheck, ha, hb⟩ := hgood
      have laid (ready : Bool) (hr : r = markOctet ready) : chars = supplyFrame (u16 a b) (u16 c d) ready := by
        have body : supplyBody (u16 a b) (u16 c d) ready = [a, b, c, d, r] := by
          rw [supplyBody, octets16_u16, octets16_u16, ← hr]
          rfl
        rw [clean_of_unfaulted chars (by simpa using hclean), hchars, supplyFrame, body, hcheck, wordOctets_append]
        rfl
      split at h
      · cases h
        exact ⟨ha, hb, laid false ‹_›⟩
      · split at h
        · cases h
          exact ⟨ha, hb, laid true ‹_›⟩
        · cases h
    · cases h
  · cases h

/-! ### The judging of the supply (R147 to R149, R151, R152) -/

theorem State.faultVerdict_of_change {s : State} {reason : SupplyReason} {a b : Nat} (hs : s.monitor.state ≠ .fault) :
    s.faultVerdict reason a b = (s.supplyChange .fault (some reason)).supplyFault a b := by
  unfold State.faultVerdict
  cases h : s.monitor.state with
  | fault => exact absurd h hs
  | absent | normal => rfl

theorem State.faultVerdict_of_same {s : State} {reason : SupplyReason} {a b : Nat} (hs : s.monitor.state = .fault)
    (hr : s.monitor.reason = some reason) : s.faultVerdict reason a b = s := by
  simp only [State.faultVerdict, hs, if_pos hr]

theorem State.faultVerdict_of_reason {s : State} {reason : SupplyReason} {a b : Nat} (hs : s.monitor.state = .fault)
    (hr : s.monitor.reason ≠ some reason) :
    s.faultVerdict reason a b = (s.supplyChange .fault (some reason)).setStanding ⟨.fault, a, b⟩ := by
  simp only [State.faultVerdict, hs, if_neg hr]

theorem State.normalVerdict_of_change {s : State} {f : SupplyFields} {changed : Bool} (hs : s.monitor.state ≠ .normal) :
    s.normalVerdict f changed = (s.supplyChange .normal (some .recovered)).supplyNormal f.drive f.ret := by
  unfold State.normalVerdict
  cases h : s.monitor.state with
  | normal => exact absurd h hs
  | absent | fault => rfl

theorem State.normalVerdict_of_normal {s : State} {f : SupplyFields} {changed : Bool} (hs : s.monitor.state = .normal) :
    s.normalVerdict f changed = if changed then s.supplyNormal f.drive f.ret else s := by
  simp only [State.normalVerdict, hs]

/-- A good frame is recorded and restarts the timeout timer before it is judged (R148). -/
def State.recorded (s : State) (f : SupplyFields) : State := (s.restartTimeout).recordCapability f

theorem State.goodSupplyFrame_of_normal {s : State} {f : SupplyFields} (hp : s.table.partState = .ready)
    (hn : f.ready = true ∧ s.monitor.g ≤ f.drive) : s.goodSupplyFrame f
      = (s.recorded f).normalVerdict f (decide (s.monitor.lastDrive ≠ f.drive ∨ s.monitor.lastReturn ≠ f.ret)) := by
  obtain ⟨hr, hg⟩ := hn
  simp only [State.goodSupplyFrame, hp, hr, Bool.true_eq_false, if_false]
  exact if_neg (Nat.not_lt.2 hg)

theorem State.goodSupplyFrame_of_fault {s : State} {f : SupplyFields} (hp : s.table.partState = .ready)
    (hn : ¬(f.ready = true ∧ s.monitor.g ≤ f.drive)) : s.goodSupplyFrame f
      = (s.recorded f).faultVerdict (if f.ready then .belowFloor else .notReady) f.drive f.ret := by
  cases hr : f.ready with
  | false => simp only [State.goodSupplyFrame, hp, hr, if_true]; rfl
  | true =>
    simp only [State.goodSupplyFrame, hp, hr, Bool.true_eq_false, if_false]
    exact if_pos (Nat.lt_of_not_le fun hg => hn ⟨hr, hg⟩)

theorem exec_supplyFrame_of_none {s : State} (hs : s.settled = true) {chars : List LineChar}
    (h : parseSupplyFrame chars = none) : exec (.supplyFrame chars) s = .next s.badSupplyFrame := by
  simp only [exec, execSupplyFrame, State.settle_of_settled hs, h]

theorem exec_supplyFrame_of_some {s : State} (hs : s.settled = true) {chars : List LineChar} {f : SupplyFields}
    (h : parseSupplyFrame chars = some f) : exec (.supplyFrame chars) s = .next (s.goodSupplyFrame f) := by
  simp only [exec, execSupplyFrame, State.settle_of_settled hs, h]

/-- Settles O51. -/
theorem supplyFrameIsRecordedAndJudged : Obligations.SupplyFrameIsRecordedAndJudged := by
  intro s hs body frame
  refine ⟨fun chars hbad => exec_supplyFrame_of_none hs ?_, fun a b ready ha hb => ?_⟩
  · cases hp : parseSupplyFrame chars with
    | none => rfl
    | some f =>
      obtain ⟨h1, h2, h3⟩ := supplyFrame_of_parse hp
      exact absurd h3 (hbad _ _ _ h1 h2)
  intro x
  have good : x = .next (s.goodSupplyFrame ⟨a, b, ready⟩) :=
    exec_supplyFrame_of_some hs (parseSupplyFrame_supplyFrame ready ha hb)
  refine ⟨fun hu => good.trans (congrArg _ ?_), fun timeout hready htime => ?_⟩
  · simp only [State.goodSupplyFrame, hu]
    rfl
  intro taken changed standing normal reason
  have htaken : s.recorded ⟨a, b, ready⟩ = taken := by
    have window : s.monitor.timeout.getD 0 = timeout := by rw [htime]; rfl
    simp only [State.recorded, State.restartTimeout, window]
    rfl
  have judged (hn : normal) := good.trans (congrArg _ (State.goodSupplyFrame_of_normal hready hn))
  have failed (hn : ¬normal) := good.trans (congrArg _ (State.goodSupplyFrame_of_fault hready hn))
  rw [htaken] at judged failed
  refine ⟨fun hn hm => (judged hn).trans (congrArg _ (State.normalVerdict_of_change hm)), fun hn hm h1 h2 => ?_,
    fun hn hm h1 => ?_, fun hn hm => (failed hn).trans (congrArg _ (State.faultVerdict_of_change hm)),
    fun hn hm hr => (failed hn).trans (congrArg _ (State.faultVerdict_of_same hm hr)),
    fun hn hm hr => (failed hn).trans (congrArg _ (State.faultVerdict_of_reason hm hr))⟩
  · refine (judged hn).trans (congrArg _ ((State.normalVerdict_of_normal (s := taken) hm).trans ?_))
    exact if_neg (by simp [h1, h2])
  · refine (judged hn).trans (congrArg _ ((State.normalVerdict_of_normal (s := taken) hm).trans ?_))
    exact if_pos (decide_eq_true (not_and_or.1 h1))

/-! ### The supply timeout (R149, R151, R152) -/

theorem exec_supplyTimeoutExpiry_of_stopped {s : State} (hs : s.settled = true) (h : s.monitor.timer = .stopped) :
    exec .supplyTimeoutExpiry s = .next s := by
  simp only [exec, execSupplyTimeoutExpiry, State.settle_of_settled hs, h]

theorem exec_supplyTimeoutExpiry_of_running {s : State} (hs : s.settled = true) (h : s.monitor.timer ≠ .stopped) :
    exec .supplyTimeoutExpiry s = .next s.supplyTimesOut := by
  simp only [exec, execSupplyTimeoutExpiry, State.settle_of_settled hs]
  cases ht : s.monitor.timer with
  | stopped => exact absurd ht h
  | running n => rfl

/-- Settles O52. -/
theorem supplyTimeoutFailsTheSupply : Obligations.SupplyTimeoutFailsTheSupply := by
  intro s hs failed
  have expired (ht : s.monitor.timer ≠ .stopped) := exec_supplyTimeoutExpiry_of_running hs ht
  exact ⟨exec_supplyTimeoutExpiry_of_stopped hs,
    fun ht hm => (expired ht).trans (congrArg _ (State.faultVerdict_of_change hm)),
    fun ht hm hr => (expired ht).trans (congrArg _ (State.faultVerdict_of_reason hm hr))⟩

end Sys2Proof.Machine

namespace Sys2Proof.Machine

/-! ### Refresh and brake timers (R32, R33, R45) -/

theorem exec_refreshTimerExpiry_of_running {s : State} (hs : s.settled = true) {h : Handle}
    (hr : (s.claim h).state = .run ∧ (s.claim h).refreshTimer ≠ .stopped) :
    exec (.refreshTimerExpiry h) s = .next (s.enterStale h) := by
  simp only [exec, execRefreshTimerExpiry, State.settle_of_settled hs, if_pos hr]

theorem exec_refreshTimerExpiry_of_stopped {s : State} (hs : s.settled = true) {h : Handle}
    (hr : ¬((s.claim h).state = .run ∧ (s.claim h).refreshTimer ≠ .stopped)) :
    exec (.refreshTimerExpiry h) s = .next s := by
  simp only [exec, execRefreshTimerExpiry, State.settle_of_settled hs, if_neg hr]

theorem exec_brakeTimerExpiry_of_running {s : State} (hs : s.settled = true) {h : Handle}
    (hr : (s.claim h).state = .braking ∧ (s.claim h).brakeTimer ≠ .stopped) :
    exec (.brakeTimerExpiry h) s = .next (s.enterHalted h) := by
  simp only [exec, execBrakeTimerExpiry, State.settle_of_settled hs, if_pos hr]

theorem exec_brakeTimerExpiry_of_stopped {s : State} (hs : s.settled = true) {h : Handle}
    (hr : ¬((s.claim h).state = .braking ∧ (s.claim h).brakeTimer ≠ .stopped)) :
    exec (.brakeTimerExpiry h) s = .next s := by
  simp only [exec, execBrakeTimerExpiry, State.settle_of_settled hs, if_neg hr]

theorem State.enterStale_of_some {s u : State} {h : Handle} {r : BaseRecord} (hr : s.readBase h = (some r, u)) :
    s.enterStale h = { u with
      claims := s.claims.set h.val ((s.claim h).stale r) h.isLt
      passes := s.passes.call
      link := u.link.post (.stale h) } := by
  have hu : u = (s.readBase h).2 := by rw [hr]
  have hclaims : u.claims = s.claims := by rw [hu, State.readBase_claims]
  have hpasses : u.passes = s.passes := by rw [hu, State.readBase_passes]
  rw [State.enterStale, State.tableRead_of_some hr, ← hclaims, ← hpasses, ← State.claim_congr hclaims h]
  rfl

theorem State.enterStale_of_none {s u : State} {h : Handle} (hb : (s.claim h).state ≠ .unbound)
    (hr : s.readBase h = (none, u)) :
    s.enterStale h = (s.setClaim h { s.claim h with condition := some .lost }).enterTripped h .recordLost := by
  rw [State.enterStale, State.tableRead_of_none hr, State.readBase_none hr, State.recordLost_of_bound hb]

/-- Settles O40. -/
theorem timerExpiriesMakeStaleOrHalted : Obligations.TimerExpiriesMakeStaleOrHalted := by
  intro s h hs c
  refine ⟨fun r s' hrun ht hr => ?_, fun s' hrun ht hr => ?_, fun hn => exec_refreshTimerExpiry_of_stopped hs (by tauto),
    fun m hbr ht hm => ?_, fun hn => exec_brakeTimerExpiry_of_stopped hs (by tauto)⟩
  · exact (exec_refreshTimerExpiry_of_running hs ⟨hrun, ht⟩).trans (congrArg _ (State.enterStale_of_some hr))
  · exact (exec_refreshTimerExpiry_of_running hs ⟨hrun, ht⟩).trans
      (congrArg _ (State.enterStale_of_none (fun e => by simp [c, e] at hrun) hr))
  · have halted := State.enterHalted_eq (s := s) (h := h)
    rw [show (s.claim h).stageMap = some m from hm, ← State.onStages_post] at halted
    exact (exec_brakeTimerExpiry_of_running hs ⟨hbr, ht⟩).trans (congrArg _ halted)

/-! ### Stage fault inputs (R138, R139, R143) -/

/-- A fault found at a channel (7.7): only the channels and the reports change. -/
theorem State.channelTrip_eq (s : State) (st : Stage) (h : Handle) (m : StageMap) (reason : TripReason) :
    s.channelTrip st h m reason = { s with
      channels := (s.onStages (some m) Channel.hold).channels
      reports := s.reports ++ [⟨st, h, .trip reason⟩] } := by
  rw [State.channelTrip, State.onStages_eq]
  rfl

theorem exec_stageFaultAsserted_of_settled {s : State} (hs : s.settled = true) (st : Stage) :
    exec (.stageFaultAsserted st) s = .next (if s.stageFault st then s else s.stageFaultRises st) := by
  simp only [exec, execStageFaultAsserted, State.settle_of_settled hs]

theorem State.stageFaultRises_of_unowned {s : State} {st : Stage} (ho : (s.channel st).owner = none) :
    s.stageFaultRises st = s.setStageFault st true := by
  have e : ((s.setStageFault st true).channel st).owner = none := ho
  simp only [State.stageFaultRises, e]

theorem State.stageFaultRises_of_owned {s : State} {st : Stage} {o : Owner} {m : StageMap}
    (ho : (s.channel st).owner = some o) (hm : (s.claim o.handle).stageMap = some m) :
    s.stageFaultRises st = (s.setStageFault st true).channelTrip st o.handle m .stageFault := by
  have e : ((s.setStageFault st true).channel st).owner = some o := ho
  have e' : ((s.setStageFault st true).claim o.handle).stageMap = some m := hm
  simp only [State.stageFaultRises, e, e']

/-- Settles O42. -/
theorem stageFaultTurnsTheClaimsGatesOff : Obligations.StageFaultTurnsTheClaimsGatesOff := by
  intro s st hs level
  have asserted := exec_stageFaultAsserted_of_settled hs st
  refine ⟨fun o m hf ho hm => ?_, fun hf ho => ?_, fun hf => ?_, ?_⟩
  · rw [asserted, if_neg (by simp [hf]), State.stageFaultRises_of_owned ho hm, State.channelTrip_eq]
    rfl
  · rw [asserted, if_neg (by simp [hf]), State.stageFaultRises_of_unowned ho]
    rfl
  · rw [asserted, if_pos hf]
  · show Host.Outcome.next (s.settle.setStageFault st false) = _
    rw [State.settle_of_settled hs]
    rfl

/-! ### Reports taken (R40, R47, R48, R50, R140) -/

theorem Claim.owns_iff (c : Claim) (st : Stage) : c.owns st = true ↔ ∃ m, c.stageMap = some m ∧ st ∈ m.stages := by
  unfold Claim.owns
  cases c.stageMap <;> simp

theorem exec_tripReport_of_none {s : State} (hs : s.settled = true) {st : Stage}
    (h : takeFirst st ReportKind.isTrip s.reports = none) : exec (.tripReport st) s = .next s := by
  simp only [exec, execTripReport, State.settle_of_settled hs, h]

theorem exec_tripReport_of_some {s : State} (hs : s.settled = true) {st : Stage} {r : Report} {rest : List Report}
    (h : takeFirst st ReportKind.isTrip s.reports = some (r, rest)) :
    exec (.tripReport st) s = .next (({ s with reports := rest } : State).takeTrip r) := by
  simp only [exec, execTripReport, State.settle_of_settled hs, h]

theorem exec_releaseCompletion_of_none {s : State} (hs : s.settled = true) {st : Stage}
    (h : takeFirst st (fun k => !k.isTrip) s.reports = none) : exec (.releaseCompletion st) s = .next s := by
  simp only [exec, execReleaseCompletion, State.settle_of_settled hs, h]

theorem exec_releaseCompletion_of_some {s : State} (hs : s.settled = true) {st : Stage} {r : Report} {rest : List Report}
    (h : takeFirst st (fun k => !k.isTrip) s.reports = some (r, rest)) :
    exec (.releaseCompletion st) s
      = if (s.claim r.handle).state = .releasing ∧ (s.claim r.handle).owns r.stage = true
        then .next (({ s with reports := rest } : State).freeClaim r.handle) else .next { s with reports := rest } := by
  simp only [exec, execReleaseCompletion, State.settle_of_settled hs, h]
  rfl

theorem State.takeTrip_of_not_owns {s : State} {r : Report} (h : ¬(s.claim r.handle).owns r.stage = true) :
    s.takeTrip r = s := if_neg h

theorem State.takeTrip_of_recordLost {s : State} {r : Report} (h : (s.claim r.handle).owns r.stage = true)
    (hk : r.kind = .trip .recordLost) : s.takeTrip r = s.recordLost r.handle := by
  simp only [State.takeTrip, if_pos h, hk]

theorem State.takeTrip_of_reason {s : State} {r : Report} {reason : TripReason}
    (h : (s.claim r.handle).owns r.stage = true) (hk : r.kind = .trip reason) (hne : reason ≠ .recordLost) :
    s.takeTrip r = s.enterTripped r.handle reason := by
  unfold State.takeTrip
  rw [if_pos h, hk]
  cases reason with
  | recordLost => exact absurd rfl hne
  | overcurrent | stageFault | imbalance | safeOff => rfl

/-- Settles O49. -/
theorem reportsActOnTheClaimThatStillOwnsTheStage : Obligations.ReportsActOnTheClaimThatStillOwnsTheStage := by
  intro s st hs tripOf doneOf
  refine ⟨fun hn => exec_tripReport_of_none hs ((takeFirst_eq_none _ _ _).2 hn),
    fun hn => exec_releaseCompletion_of_none hs ((takeFirst_eq_none _ _ _).2 hn), ?_⟩
  intro before behind x hrs rest owns
  have owned (hx : x.stage = st) : owns ↔ (s.claim x.handle).owns x.stage = true := by rw [Claim.owns_iff, hx]
  refine ⟨fun ht hb => ?_, fun hd hb => ?_⟩
  · have hx : x.stage = st := by simpa using (Bool.and_eq_true_iff.1 ht).1
    have taken := exec_tripReport_of_some hs ((takeFirst_eq_some _ _ _ _ _).2 ⟨before, behind, hrs, rfl, ht, hb⟩)
    refine ⟨fun hno => taken.trans (congrArg _ (State.takeTrip_of_not_owns (mt (owned hx).2 hno))), fun ho hk hu => ?_,
      fun reason ho hk hne => taken.trans (congrArg _ (State.takeTrip_of_reason ((owned hx).1 ho) hk hne))⟩
    refine taken.trans (congrArg _ ((State.takeTrip_of_recordLost (s := rest) ((owned hx).1 ho) hk).trans ?_))
    exact State.recordLost_of_bound (s := rest) hu
  · have hx : x.stage = st := by simpa using (Bool.and_eq_true_iff.1 hd).1
    have taken := exec_releaseCompletion_of_some hs ((takeFirst_eq_some _ _ _ _ _).2 ⟨before, behind, hrs, rfl, hd, hb⟩)
    refine ⟨fun ho hr => taken.trans (if_pos ⟨hr, (owned hx).1 ho⟩), fun hn => taken.trans (if_neg ?_)⟩
    rintro ⟨hr, ho⟩
    rcases hn with hn | hn
    · exact hn ((owned hx).2 ho)
    · exact hn hr

end Sys2Proof.Machine

namespace Sys2Proof.Machine

/-! ### Channels of a tripped claim (R26, R134) -/

/-- Gates off, in OFF, with the brake engaged (R26, R134). -/
structure Channel.IsOff (k : Channel) : Prop where
  mode : k.mode = .off
  gates : k.gates = .off
  brake : k.brakeEngaged = true

theorem State.enterTripped_channel_of_not_mem {s : State} {h : Handle} {st : Stage} (r : TripReason)
    (hst : ∀ m, (s.claim h).stageMap = some m → st ∉ m.stages) : (s.enterTripped h r).channel st = s.channel st := by
  by_cases hm : (s.claim h).state ≠ .unbound ∧ (s.claim h).state ≠ .tripped
  · cases hmap : (s.claim h).stageMap with
    | none =>
      rw [State.enterTripped_of_moves r hm.1 hm.2, State.channel_post, hmap, State.onStages_none, State.abandonRamp]
      simp only [hmap, ite_self]
      rfl
    | some m =>
      obtain ⟨-, -, -, hout, -⟩ := (enteringTrippedRecordsFirstReason s h r).2 m hm.1 hm.2 hmap
      exact hout st (hst m hmap)
  · rw [State.enterTripped_of_idle r (by tauto)]

theorem State.enterTripped_isOff_of_mem {s : State} {h : Handle} {st : Stage} {m : StageMap} (r : TripReason)
    (hm : (s.claim h).state ≠ .unbound ∧ (s.claim h).state ≠ .tripped) (hmap : (s.claim h).stageMap = some m)
    (hst : st ∈ m.stages) : ((s.enterTripped h r).channel st).IsOff := by
  obtain ⟨-, -, hin, -⟩ := (enteringTrippedRecordsFirstReason s h r).2 m hm.1 hm.2 hmap
  rw [hin st hst]
  exact ⟨rfl, rfl, rfl⟩

/-- A channel that is off stays off, whichever claim trips. -/
theorem State.enterTripped_isOff {s : State} {st : Stage} (hoff : (s.channel st).IsOff) (h : Handle) (r : TripReason) :
    ((s.enterTripped h r).channel st).IsOff := by
  by_cases hm : (s.claim h).state ≠ .unbound ∧ (s.claim h).state ≠ .tripped
  · by_cases hst : ∃ m, (s.claim h).stageMap = some m ∧ st ∈ m.stages
    · obtain ⟨m, hmap, hmem⟩ := hst
      exact State.enterTripped_isOff_of_mem r hm hmap hmem
    · rwa [State.enterTripped_channel_of_not_mem r fun m hmap hmem => hst ⟨m, hmap, hmem⟩]
  · rwa [State.enterTripped_of_idle r (by tauto)]

/-! ### Claims tripped one after another (R49) -/

/-- A claim that a trip moves (R48). -/
abbrev Claim.Moves (c : Claim) : Prop := c.state ≠ .unbound ∧ c.state ≠ .tripped

/-- The claims of a list tripped one after another with reason SAFE-OFF. -/
abbrev State.trips (s : State) (hs : List Handle) : State := hs.foldl (fun u h => u.enterTripped h .safeOff) s

/-- Each claim of a list without repetition is one that a trip moves. -/
structure State.Movable (s : State) (hs : List Handle) : Prop where
  nodup : hs.Nodup
  moves : ∀ h ∈ hs, (s.claim h).Moves

theorem State.Movable.head {s : State} {h : Handle} {hs : List Handle} (hm : s.Movable (h :: hs)) : (s.claim h).Moves :=
  hm.moves h List.mem_cons_self

/-- Tripping the first of the list leaves the claims of the others. -/
theorem State.Movable.claim_tail {s : State} {h : Handle} {hs : List Handle} (hm : s.Movable (h :: hs)) {k : Handle}
    (hk : k ∈ hs) : (s.enterTripped h .safeOff).claim k = s.claim k :=
  s.enterTripped_claim_of_ne h k .safeOff fun e => (List.nodup_cons.1 hm.nodup).1 (e ▸ hk)

theorem State.Movable.tail {s : State} {h : Handle} {hs : List Handle} (hm : s.Movable (h :: hs)) :
    (s.enterTripped h .safeOff).Movable hs where
  nodup := (List.nodup_cons.1 hm.nodup).2
  moves k hk := by rw [hm.claim_tail hk]; exact hm.moves k (List.mem_cons_of_mem h hk)

/-- Claims that a trip does not move may be left out. -/
theorem State.trips_eq_filter (s : State) (hs : List Handle) (hn : hs.Nodup) :
    s.trips hs = s.trips (hs.filter (fun h => decide (s.claim h).Moves)) := by
  induction hs generalizing s with
  | nil => rfl
  | cons h hs ih =>
    obtain ⟨hh, hn⟩ := List.nodup_cons.1 hn
    have first : s.trips (h :: hs) = (s.enterTripped h .safeOff).trips hs := rfl
    rw [first, ih _ hn]
    by_cases hm : (s.claim h).Moves
    · have rest : hs.filter (fun k => decide ((s.enterTripped h .safeOff).claim k).Moves)
          = hs.filter (fun k => decide (s.claim k).Moves) :=
        List.filter_congr fun k hk => by rw [s.enterTripped_claim_of_ne h k _ fun e => hh (e ▸ hk)]
      rw [rest, List.filter_cons_of_pos (by simpa using hm)]
      rfl
    · rw [State.enterTripped_of_idle .safeOff (by tauto), List.filter_cons_of_neg (by simpa using hm)]

theorem State.trips_claim_of_not_mem (s : State) {hs : List Handle} {h : Handle} (hh : h ∉ hs) :
    (s.trips hs).claim h = s.claim h := by
  induction hs generalizing s with
  | nil => rfl
  | cons k hs ih =>
    obtain ⟨hne, hh⟩ := List.ne_and_not_mem_of_not_mem_cons hh
    exact (ih _ hh).trans (s.enterTripped_claim_of_ne k h _ hne)

theorem State.trips_claim_of_mem {s : State} {hs : List Handle} (hm : s.Movable hs) {h : Handle} (hh : h ∈ hs) :
    (s.trips hs).claim h = (s.claim h).tripped .safeOff := by
  induction hs generalizing s with
  | nil => cases hh
  | cons k hs ih =>
    rcases List.mem_cons.1 hh with rfl | hh
    · refine (State.trips_claim_of_not_mem _ (List.nodup_cons.1 hm.nodup).1).trans ?_
      exact State.enterTripped_claim_self .safeOff hm.head.1 hm.head.2
    · rw [← hm.claim_tail hh]
      exact ih hm.tail hh

theorem State.trips_link {s : State} {hs : List Handle} (hm : s.Movable hs) :
    (s.trips hs).link = hs.foldl (fun l h => l.post (.tripped h .safeOff)) s.link := by
  induction hs generalizing s with
  | nil => rfl
  | cons h hs ih =>
    refine (ih hm.tail).trans ?_
    rw [State.enterTripped_of_moves .safeOff hm.head.1 hm.head.2]
    simp

theorem State.trips_passes {s : State} {hs : List Handle} (hm : s.Movable hs) :
    (s.trips hs).passes = if hs = [] then s.passes else s.passes.call := by
  induction hs generalizing s with
  | nil => rfl
  | cons h hs ih =>
    have first : (s.enterTripped h .safeOff).passes = s.passes.call := by
      rw [State.enterTripped_of_moves .safeOff hm.head.1 hm.head.2]
      simp
    refine (ih hm.tail).trans ?_
    rw [first, if_neg (List.cons_ne_nil h hs), PassBook.call_call, ite_self]

theorem State.trips_frame (s : State) (hs : List Handle) :
    (s.trips hs).table = s.table ∧ (s.trips hs).memory = s.memory ∧ (s.trips hs).monitor = s.monitor
      ∧ (s.trips hs).inputs = s.inputs ∧ (s.trips hs).pending = s.pending := by
  induction hs generalizing s with
  | nil => exact ⟨rfl, rfl, rfl, rfl, rfl⟩
  | cons h hs ih =>
    obtain ⟨h1, h2, h3, h4, h5⟩ := ih (s.enterTripped h .safeOff)
    exact ⟨h1.trans (by simp), h2.trans (by simp), h3.trans (by simp), h4.trans (by simp), h5.trans (by simp)⟩

theorem State.trips_channel_of_not_mem {s : State} {hs : List Handle} (hm : s.Movable hs) {st : Stage}
    (hst : ∀ h ∈ hs, ∀ m, (s.claim h).stageMap = some m → st ∉ m.stages) :
    (s.trips hs).channel st = s.channel st := by
  induction hs generalizing s with
  | nil => rfl
  | cons h hs ih =>
    refine (ih hm.tail fun k hk m hmap => ?_).trans
      (State.enterTripped_channel_of_not_mem .safeOff (hst h List.mem_cons_self))
    rw [hm.claim_tail hk] at hmap
    exact hst k (List.mem_cons_of_mem h hk) m hmap

theorem State.trips_isOff {s : State} {st : Stage} (hoff : (s.channel st).IsOff) (hs : List Handle) :
    ((s.trips hs).channel st).IsOff := by
  induction hs generalizing s with
  | nil => exact hoff
  | cons h hs ih => exact ih (State.enterTripped_isOff hoff h .safeOff)

theorem State.trips_isOff_of_mem {s : State} {hs : List Handle} (hm : s.Movable hs) {h : Handle} (hh : h ∈ hs)
    {m : StageMap} (hmap : (s.claim h).stageMap = some m) {st : Stage} (hst : st ∈ m.stages) :
    ((s.trips hs).channel st).IsOff := by
  induction hs generalizing s with
  | nil => cases hh
  | cons k hs ih =>
    rcases List.mem_cons.1 hh with rfl | hh
    · exact State.trips_isOff (State.enterTripped_isOff_of_mem .safeOff hm.head hmap hst) hs
    · exact ih hm.tail hh (by rw [hm.claim_tail hh]; exact hmap)

/-- The release reports of the claims of a list that are RELEASING. -/
def State.endedBy (s : State) (hs : List Handle) (x : Report) : Bool :=
  x.kind == .releaseComplete && decide (x.handle ∈ hs ∧ (s.claim x.handle).state = .releasing)

theorem State.enterTripped_reports {s : State} {h : Handle} (r : TripReason) (hm : (s.claim h).Moves)
    (hmap : (s.claim h).state = .releasing → (s.claim h).stageMap.isSome = true) :
    (s.enterTripped h r).reports = s.reports.filter (fun x => !s.endedBy [h] x) := by
  rw [State.enterTripped_of_moves r hm.1 hm.2]
  simp only [State.post_reports, State.onStages_reports]
  by_cases hr : (s.claim h).state = .releasing
  · rw [State.reports_abandonRamp _ h _ (hmap hr), if_pos hr]
    refine List.filter_congr fun x _ => congrArg _ ?_
    rw [State.endedBy, Bool.and_comm]
    by_cases hx : x.handle = h
    · simp [hx, hr]
    · simp [hx]
  · rw [State.abandonRamp_of_ne hr]
    refine (List.filter_eq_self.2 fun x _ => ?_).symm
    simp only [State.endedBy, List.mem_singleton]
    rw [decide_eq_false (by rintro ⟨rfl, h⟩; exact hr h), Bool.and_false]
    rfl

/-- Release reports under way end with the ramps of the claims tripped (log 13). -/
theorem State.trips_reports {s : State} {hs : List Handle} (hm : s.Movable hs)
    (hmap : ∀ h ∈ hs, (s.claim h).state = .releasing → (s.claim h).stageMap.isSome = true) :
    (s.trips hs).reports = s.reports.filter (fun x => !s.endedBy hs x) := by
  induction hs generalizing s with
  | nil => simp [State.endedBy]
  | cons h hs ih =>
    refine (ih hm.tail fun k hk => ?_).trans ?_
    · rw [hm.claim_tail hk]
      exact hmap k (List.mem_cons_of_mem h hk)
    rw [State.enterTripped_reports .safeOff hm.head (hmap h List.mem_cons_self), List.filter_filter]
    refine List.filter_congr fun x _ => ?_
    have rest : (s.enterTripped h .safeOff).endedBy hs x = s.endedBy hs x := by
      unfold State.endedBy
      by_cases hx : x.handle ∈ hs
      · rw [hm.claim_tail hx]
      · simp [hx]
    rw [rest, ← Bool.not_or]
    unfold State.endedBy
    rw [← Bool.and_or_distrib_left, ← Bool.decide_or]
    simp only [List.mem_cons, List.not_mem_nil, or_false]
    congr 3
    exact propext (by tauto)

/-! ### The safe-off input (R49, R134, R154, R155, R157) -/

theorem exec_safeOffAsserted_of_released {s : State} (hs : s.settled = true) (h : s.inputs.safeOff = false) :
    exec .safeOffAsserted s = .next (s.setSafeOff true).tripAll := by
  simp only [exec, execSafeOffAsserted, State.settle_of_settled hs, h, Bool.false_eq_true, if_false]

/-- Settles O41. -/
theorem safeOffHoldsGatesOffAndTripsClaims : Obligations.SafeOffHoldsGatesOffAndTripsClaims := by
  intro s hs
  refine ⟨?_, ?_⟩
  · intro hoff moved
    let u := s.setSafeOff true
    have hm : u.Movable moved := ⟨Handle.all_nodup.filter _, fun h hh => of_decide_eq_true (List.mem_filter.1 hh).2⟩
    have moves (h : Handle) : h ∈ moved ↔ (s.claim h).Moves := by simp [moved, Handle.mem_all]
    have htrips : u.tripAll = u.trips moved := u.trips_eq_filter Handle.all Handle.all_nodup
    obtain ⟨htable, hmemory, hmonitor, hinputs, hpending⟩ := u.trips_frame moved
    refine ⟨u.trips moved, ?_, hinputs, htable, fun st => ?_, fun h hh => State.trips_claim_of_mem hm hh,
      fun h hh => State.trips_claim_of_not_mem u hh, State.trips_link hm, State.trips_passes hm, hmemory, hmonitor,
      hpending, fun hmap => ?_, fun st hst => State.trips_channel_of_not_mem hm hst, fun h hh m hmap st hst => ?_⟩
    · rw [exec_safeOffAsserted_of_released hs hoff]
      exact congrArg _ htrips
    · exact if_pos (by rw [hinputs]; rfl)
    · refine (State.trips_reports hm fun h _ => hmap h).trans (List.filter_congr fun x _ => ?_)
      have releasing : (x.handle ∈ moved ∧ (u.claim x.handle).state = .releasing)
          ↔ (s.claim x.handle).state = .releasing :=
        ⟨fun h => h.2, fun h => ⟨(moves x.handle).2 (by rw [Claim.Moves, h]; decide), h⟩⟩
      simp only [State.endedBy, releasing]
    · obtain ⟨h1, h2, h3⟩ := State.trips_isOff_of_mem hm hh hmap hst
      exact ⟨h1, h2, h3⟩
  · show Host.Outcome.next (s.settle.setSafeOff false) = _
    rw [State.settle_of_settled hs]
    rfl

end Sys2Proof.Machine

namespace Sys2Proof.Machine

/-! ### The current law (R130, R132) -/

theorem clampTo_eq (limit : Nat) (x : Int) : clampTo limit x = max (-(limit : Int)) (min (limit : Int) x) := by
  unfold clampTo
  split
  · omega
  · split <;> omega

/-- The error, the candidate integrator and the raw command of the current law (R130). -/
def BaseRecord.candidate (r : BaseRecord) (reference measured integrator : Int) : Int :=
  clampTo r.integratorLimit (integrator + ((r.ki : Int) * (reference - measured)).tdiv 1024)

def BaseRecord.command (r : BaseRecord) (reference measured integrator : Int) : Int :=
  ((r.kp : Int) * (reference - measured)).tdiv 256 + r.candidate reference measured integrator

theorem currentLaw_of_high {r : BaseRecord} {reference measured integrator : Int}
    (h : 1000 < r.command reference measured integrator) : currentLaw r reference measured integrator = (1000, integrator) :=
  if_pos h

theorem currentLaw_of_low {r : BaseRecord} {reference measured integrator : Int}
    (h : r.command reference measured integrator < -1000) :
    currentLaw r reference measured integrator = (-1000, integrator) :=
  (if_neg (show ¬1000 < r.command reference measured integrator by omega)).trans (if_pos h)

theorem currentLaw_of_within {r : BaseRecord} {reference measured integrator : Int}
    (hl : -1000 ≤ r.command reference measured integrator) (hu : r.command reference measured integrator ≤ 1000) :
    currentLaw r reference measured integrator
      = (r.command reference measured integrator, r.candidate reference measured integrator) :=
  (if_neg (show ¬1000 < r.command reference measured integrator by omega)).trans
    (if_neg (show ¬r.command reference measured integrator < -1000 by omega))

theorem Channel.drive_eq (k : Channel) (r : BaseRecord) (reference : Int) (x : StageSample) :
    k.drive r reference x = { k with
      duty := (currentLaw r reference x.torque k.integrator).1
      integrator := (currentLaw r reference x.torque k.integrator).2
      gates := if k.faultHold then .off else .driving x.angle } := rfl

/-! ### Shortness recorded, and the stages driven (R122 to R127, R132) -/

/-- The shortness of an expiry recorded at a channel (R126). -/
def Channel.shortMarked (k : Channel) (short : Bool) : Channel := { k with
  shortfall := if short then satInc Config.shortfallMax k.shortfall else k.shortfall
  shortFlag := short }

theorem State.recordShort_eq (s : State) (st : Stage) (h : Handle) (short notice : Bool) :
    s.recordShort st h short notice = { s.setChannel st ((s.channel st).shortMarked short) with
      link := if short = true ∧ (s.channel st).shortfall = 0 ∧ notice = true then s.link.post (.short h) else s.link } := by
  cases short with
  | false => rfl
  | true =>
    simp only [State.recordShort, if_true, Bool.and_eq_true, beq_iff_eq, true_and]
    split <;> rfl

/-- The grant of a claim on a side (R124). -/
def Claim.grantOn (c : Claim) : DrawSide → Nat
  | .drive => c.driveGrant
  | .ret => c.returnGrant

/-- The grant limit of a claim for a raw demand (R124). -/
def Claim.grantLimitFor (c : Claim) (r : BaseRecord) (d : Int) : Option Nat :=
  grantLimit (r.coefficient (drawSide d c.sign) c.band) (c.grantOn (drawSide d c.sign))

/-- The reference of a claim for a raw demand (R125). -/
def Claim.referenceFor (c : Claim) (r : BaseRecord) (o : Option OptionalRecord) (d : Int) : Int :=
  referenceOf d (magnitudeLimit r o c.band) (c.grantLimitFor r d)

/-- Whether an expiry with a raw demand is short (R126). -/
def Claim.shortFor (c : Claim) (r : BaseRecord) (o : Option OptionalRecord) (d : Int) : Bool :=
  isShort d (magnitudeLimit r o c.band) (c.grantLimitFor r d)

/-- The primary channel after an expiry that drove it. -/
def Channel.regulated (k : Channel) (c : Claim) (r : BaseRecord) (o : Option OptionalRecord) (d : Int)
    (own : StageSample) : Channel := (k.shortMarked (c.shortFor r o d)).drive r (c.referenceFor r o d) own

/-- The port after such an expiry (R127). -/
def State.shortNoticed (s : State) (st : Stage) (h : Handle) (c : Claim) (r : BaseRecord) (o : Option OptionalRecord)
    (d : Int) : LinkPort :=
  if c.shortFor r o d = true ∧ (s.channel st).shortfall = 0 ∧ r.flags.shortNotice = true then s.link.post (.short h)
  else s.link

theorem State.regulateToward_def (s : State) (st : Stage) (h : Handle) (c : Claim) (m : StageMap) (r : BaseRecord)
    (o : Option OptionalRecord) (d : Int) (own other : StageSample) :
    let u := (s.recordShort st h (c.shortFor r o d) r.flags.shortNotice).modChannel st
      (fun k => k.drive r (c.referenceFor r o d) own)
    (m.partner = none → s.regulateToward st h c m r o d own other = u)
      ∧ ∀ p, m.partner = some p → s.regulateToward st h c m r o d own other
        = u.modChannel p (fun k => k.drive r (c.referenceFor r o d) other) := by
  intro u
  unfold State.regulateToward
  refine ⟨fun hp => ?_, fun p hp => ?_⟩
  · rw [hp]; rfl
  · rw [hp]; rfl

theorem State.regulateToward_primary (s : State) (st : Stage) (h : Handle) (c : Claim) (r : BaseRecord)
    (o : Option OptionalRecord) (d : Int) (own : StageSample) :
    (s.recordShort st h (c.shortFor r o d) r.flags.shortNotice).modChannel st
      (fun k => k.drive r (c.referenceFor r o d) own) = { s with
        channels := s.channels.set st.val ((s.channel st).regulated c r o d own) st.isLt
        link := s.shortNoticed st h c r o d } := by
  rw [State.recordShort_eq]
  have channel (l : LinkPort) (k : Channel) : ({ s.setChannel st k with link := l } : State).channel st = k :=
    s.channel_setChannel_self st k
  rw [State.modChannel, channel]
  simp only [State.setChannel, Vector.set_set]
  rfl

/-- An expiry that forms a reference for a claim of one stage. -/
theorem State.regulateToward_of_single {m : StageMap} (hp : m.partner = none) (s : State) (st : Stage) (h : Handle)
    (c : Claim) (r : BaseRecord) (o : Option OptionalRecord) (d : Int) (own other : StageSample) :
    s.regulateToward st h c m r o d own other = { s with
      channels := s.channels.set st.val ((s.channel st).regulated c r o d own) st.isLt
      link := s.shortNoticed st h c r o d } := by
  rw [(s.regulateToward_def st h c m r o d own other).1 hp, State.regulateToward_primary]

/-- One for a PAIR: the partner stage is driven toward the same reference. -/
theorem State.regulateToward_of_pair {m : StageMap} {p : Stage} (hp : m.partner = some p) {st : Stage} (hne : p ≠ st)
    (s : State) (h : Handle) (c : Claim) (r : BaseRecord) (o : Option OptionalRecord) (d : Int)
    (own other : StageSample) :
    s.regulateToward st h c m r o d own other = { s with
      channels := (s.channels.set st.val ((s.channel st).regulated c r o d own) st.isLt).set p.val
        ((s.channel p).drive r (c.referenceFor r o d) other) p.isLt
      link := s.shortNoticed st h c r o d } := by
  rw [(s.regulateToward_def st h c m r o d own other).2 p hp, State.regulateToward_primary]
  have channel (l : LinkPort) (k : Channel) : ({ s.setChannel st k with link := l } : State).channel p = s.channel p :=
    s.channel_setChannel_of_ne st p k hne
  refine (show State.modChannel _ p _ = State.setChannel _ p _ from rfl).trans ?_
  rw [show ({ s with
    channels := s.channels.set st.val ((s.channel st).regulated c r o d own) st.isLt
    link := s.shortNoticed st h c r o d } : State).channel p = s.channel p from channel _ _]
  rfl

/-- Settles O44. -/
theorem currentLawClampsAndWithholdsIntegrator : Obligations.CurrentLawClampsAndWithholdsIntegrator := by
  refine ⟨?_, ?_⟩
  · intro r reference k x e raw candidate u t
    have hcandidate : candidate = r.candidate reference x.torque k.integrator := (clampTo_eq _ _).symm
    have hu : u = r.command reference x.torque k.integrator := by
      simp only [u, hcandidate]
      rfl
    have ht : t = _ := k.drive_eq r reference x
    rw [hu]
    refine ⟨fun h => ?_, fun h => ?_, fun h h' => ?_, ?_⟩
    · rw [ht, currentLaw_of_high h]; exact ⟨rfl, rfl⟩
    · rw [ht, currentLaw_of_low h]; exact ⟨rfl, rfl⟩
    · rw [ht, currentLaw_of_within h h', hcandidate]; exact ⟨rfl, rfl⟩
    · rw [ht]
  · intro s st p h c m r o d own other hp hne side grant reference t
    have hgrant : grant = c.grantOn side := by
      simp only [grant]
      cases side <;> rfl
    have hreference : reference = c.referenceFor r o d := by
      simp only [reference, hgrant]
      rfl
    have ht : t = _ := State.regulateToward_of_pair hp hne s h c r o d own other
    have hpartner : t.channel p = (s.channel p).drive r (c.referenceFor r o d) other := by
      rw [ht]; exact State.channel_setChannel_self (s.setChannel st _) p _
    have hprimary : t.channel st = (s.channel st).regulated c r o d own := by
      rw [ht]
      refine (State.channel_setChannel_of_ne (s.setChannel st _) p st _ hne.symm).trans ?_
      exact s.channel_setChannel_self st _
    rw [hpartner, hprimary, hreference]
    exact ⟨rfl, rfl, rfl⟩

end Sys2Proof.Machine

namespace Sys2Proof.Machine

/-! ### One regulation expiry (R119, R121, R133) -/

theorem exec_regulationExpiry_of_settled {s : State} (hs : s.settled = true) (st : Stage) (own other : StageSample) :
    exec (.regulationExpiry st own other) s = .next (s.expire st own other) := by
  simp only [exec, execRegulationExpiry, State.settle_of_settled hs]

theorem State.expire_of_unowned {s : State} {st : Stage} (ho : (s.channel st).owner = none) (own other : StageSample) :
    s.expire st own other = s := by
  simp only [State.expire, ho]

theorem State.expire_of_idle {s : State} {st : Stage} {o : Owner} (ho : (s.channel st).owner = some o)
    (hi : o.role = .partner ∨ (s.channel st).faultHold = true ∨ (s.channel st).mode = .off) (own other : StageSample) :
    s.expire st own other = s := by
  simp only [State.expire, ho]
  cases hr : o.role with
  | partner => rfl
  | primary =>
    simp only [hr, reduceCtorEq, false_or] at hi
    rcases hi with hf | hm
    · simp only [hf, if_true]
    · simp only [hm, ite_self]

theorem State.expire_of_brake {s : State} {st : Stage} {o : Owner} (ho : (s.channel st).owner = some o)
    (hr : o.role = .primary) (hf : (s.channel st).faultHold = false) (hm : (s.channel st).mode = .brake)
    (own other : StageSample) :
    s.expire st own other = s.onStages (s.claim o.handle).stageMap Channel.applyBraking := by
  simp only [State.expire, ho, hr, hf, hm, Bool.false_eq_true, if_false]

theorem State.expire_of_regulate {s : State} {st : Stage} {h : Handle} (ho : (s.channel st).owner = some ⟨h, .primary⟩)
    (hf : (s.channel st).faultHold = false) (hm : (s.channel st).mode = .regulate) (own other : StageSample) :
    s.expire st own other = s.regulate st h own other := by
  simp only [State.expire, ho, hf, hm, Bool.false_eq_true, if_false]

theorem Channel.applyBraking_applyBraking (k : Channel) : k.applyBraking.applyBraking = k.applyBraking := by
  cases hf : k.faultHold <;> simp [Channel.applyBraking, hf]

theorem Channel.applyBraking_eq (k : Channel) :
    k.applyBraking = if k.faultHold = false then { k with gates := .brakingPattern } else k := by
  cases hf : k.faultHold <;> simp [Channel.applyBraking, hf]

/-- Settles O48. -/
theorem expiryInBrakeOrWithoutWork : Obligations.ExpiryInBrakeOrWithoutWork := by
  intro s st own other hs
  rw [exec_regulationExpiry_of_settled hs]
  refine ⟨fun ho => by rw [State.expire_of_unowned ho], fun o ho =>
    ⟨fun hi => by rw [State.expire_of_idle ho hi], fun m hr hf hm hmap => ?_⟩⟩
  refine ⟨(s.onStages (some m) Channel.applyBraking).channels, ?_, fun x => ?_⟩
  · rw [State.expire_of_brake ho hr hf hm, hmap, State.onStages_eq]
  · have braked := s.channel_onStages m _ Channel.applyBraking_applyBraking x
    rw [Channel.applyBraking_eq] at braked
    refine braked.trans ?_
    by_cases hx : x ∈ m.stages <;> simp only [hx, true_and, false_and, if_true, if_false]

/-! ### Faults found at an expiry (R59, R61, R137, R142) -/

/-- The work of an expiry by what its read of the records gives. -/
theorem State.regulate_of_lost {s s' : State} {h : Handle} {m : StageMap} (hl : (s.claim h).state.live = true)
    (hm : (s.claim h).stageMap = some m) (hr : s.readRecords h m.cls = (none, s')) (st : Stage)
    (own other : StageSample) : s.regulate st h own other = s'.channelFindsLost st h m := by
  simp only [State.regulate, hm, hl, hr, if_true]

theorem State.regulate_of_overcurrent {s s' : State} {h : Handle} {m : StageMap} {r : BaseRecord}
    {o : Option OptionalRecord} {own other : StageSample} (hl : (s.claim h).state.live = true)
    (hm : (s.claim h).stageMap = some m) (hr : s.readRecords h m.cls = (some (r, o), s'))
    (hx : overcurrent r m own other = true) (st : Stage) :
    s.regulate st h own other = s'.channelTrip st h m .overcurrent := by
  simp only [State.regulate, hm, hl, hr, hx, if_true]

theorem State.regulate_of_within {s s' : State} {h : Handle} {m : StageMap} {r : BaseRecord}
    {o : Option OptionalRecord} {own other : StageSample} (hl : (s.claim h).state.live = true)
    (hm : (s.claim h).stageMap = some m) (hr : s.readRecords h m.cls = (some (r, o), s'))
    (hx : overcurrent r m own other = false) (st : Stage) :
    s.regulate st h own other = s'.balanceAndRegulate st h (s.claim h) m r o own other := by
  simp only [State.regulate, hm, hl, hr, hx, if_true, Bool.false_eq_true, if_false]

theorem overcurrent_iff (r : BaseRecord) (m : StageMap) (own other : StageSample) :
    overcurrent r m own other = true
      ↔ r.tripLevel < samplePeak own ∨ (m.partner.isSome = true ∧ r.tripLevel < samplePeak other) := by
  simp only [overcurrent, Bool.or_eq_true, Bool.and_eq_true, decide_eq_true_eq]

theorem overcurrent_of_le {r : BaseRecord} {m : StageMap} {own other : StageSample} (hown : samplePeak own ≤ r.tripLevel)
    (hother : m.partner.isSome = true → samplePeak other ≤ r.tripLevel) : overcurrent r m own other = false := by
  refine Bool.eq_false_iff.2 (fun e => ?_)
  rcases (overcurrent_iff r m own other).1 e with e | ⟨hp, e⟩
  · exact Nat.not_lt.2 hown e
  · exact Nat.not_lt.2 (hother hp) e

/-- The imbalance count after the balance check, which only a PAIR makes (R142). -/
def OptionalRecord.countAfter (o : Option OptionalRecord) (count : Nat) (own other : StageSample) : Nat :=
  match o with
  | some (.pair _ limit _) => imbalanceAfter count limit own.torque other.torque
  | some (.weakening _ _) => count
  | none => count

theorem State.balanceAndRegulate_of_imbalance {s : State} {st : Stage} {own other : StageSample} {p : Stage} {limit time : Nat}
    (ht : time ≤ imbalanceAfter (s.channel st).imbalance limit own.torque other.torque) (h : Handle) (c : Claim)
    (m : StageMap) (r : BaseRecord) :
    s.balanceAndRegulate st h c m r (some (.pair p limit time)) own other
      = (s.setChannel st { s.channel st with
        imbalance := imbalanceAfter (s.channel st).imbalance limit own.torque other.torque }).channelTrip st h m
          .imbalance :=
  if_pos ht

theorem State.setChannel_channel (s : State) (st : Stage) : s.setChannel st (s.channel st) = s := by
  have e : s.channels.set st.val (s.channel st) st.isLt = s.channels := Vector.set_getElem_self st.isLt
  rw [State.setChannel, e]

theorem State.setChannel_setChannel (s : State) (st : Stage) (k k' : Channel) :
    (s.setChannel st k).setChannel st k' = s.setChannel st k' := by
  simp only [State.setChannel, Vector.set_set]

/-- A balance check that finds no lasting imbalance. -/
theorem State.balanceAndRegulate_of_balanced {s : State} {st : Stage} {o : Option OptionalRecord}
    {own other : StageSample} (hb : ∀ p limit time, o = some (.pair p limit time) →
      OptionalRecord.countAfter o (s.channel st).imbalance own other < time)
    (h : Handle) (c : Claim) (m : StageMap) (r : BaseRecord) :
    s.balanceAndRegulate st h c m r o own other
      = (s.setChannel st { s.channel st with
        imbalance := OptionalRecord.countAfter o (s.channel st).imbalance own other }).rampAndRegulate st h c m r o
          own other := by
  match o, hb with
  | none, _ | some (.weakening _ _), _ => 
    exact congrArg (fun u : State => u.rampAndRegulate st h c m r _ own other) (s.setChannel_channel st).symm
  | some (.pair p limit time), hb => exact if_neg (Nat.not_le.2 (hb p limit time rfl))

theorem State.readRecords_eq_channels {s s' : State} {h : Handle} {cls : ClaimClass}
    {x : Option (BaseRecord × Option OptionalRecord)} (hr : s.readRecords h cls = (x, s')) :
    s'.channels = s.channels ∧ s'.claims = s.claims := by
  have e : s' = (s.readRecords h cls).2 := by rw [hr]
  rw [e]
  exact ⟨s.readRecords_channels h cls, s.readRecords_claims h cls⟩

/-- Settles O46. -/
theorem faultAtExpiryTurnsGatesOffAndReports : Obligations.FaultAtExpiryTurnsGatesOffAndReports := by
  intro s s' st own other h m hs ho hf hmode hl hm peak faulted
  have hexec : exec (.regulationExpiry st own other) s = .next (s.regulate st h own other) := by
    rw [exec_regulationExpiry_of_settled hs, State.expire_of_regulate ho hf hmode]
  have hfaulted (u : State) (reason : TripReason) : u.channelTrip st h m reason = faulted u reason :=
    u.channelTrip_eq st h m reason
  rw [hexec]
  refine ⟨fun hr => ?_, fun r o hr => ?_⟩
  · obtain ⟨-, hclaims⟩ := State.readRecords_eq_channels hr
    have hclaim : s'.claim h = s.claim h := congrArg (·.get h) hclaims
    rw [State.regulate_of_lost hl hm hr,
      s'.channelFindsLost_eq st h m (hclaim ▸ ClaimState.bound_of_live hl), hclaim, hfaulted]
  · obtain ⟨hchannels, -⟩ := State.readRecords_eq_channels hr
    have hchannel : s'.channel st = s.channel st := congrArg (·.get st) hchannels
    have iff := overcurrent_iff r m own other
    refine ⟨fun hx => ?_, ?_⟩
    · rw [State.regulate_of_overcurrent hl hm hr (iff.2 hx), hfaulted]
    · rintro p limit time hx rfl count ht
      have ht' : time ≤ imbalanceAfter (s'.channel st).imbalance limit own.torque other.torque := by
        rw [hchannel]; exact ht
      rw [State.regulate_of_within hl hm hr (Bool.eq_false_iff.2 (fun e => hx (iff.1 e))),
        State.balanceAndRegulate_of_imbalance ht', hfaulted, hchannel]
      rfl

/-! ### The release ramp (R135, R136) -/

/-- The raw demand of an expiry: the ramped demand stepped in RELEASING, the claim's demand elsewhere (R122, R135). -/
def Claim.demandAt (c : Claim) (k : Channel) (r : BaseRecord) : Int :=
  if c.state = .releasing then rampStep k.ramped r.releaseStep else c.demand

/-- The primary channel before the reference is formed: the imbalance counted, the ramp stepped. -/
def Channel.readied (k : Channel) (c : Claim) (r : BaseRecord) (o : Option OptionalRecord) (own other : StageSample) :
    Channel := { k with
  imbalance := OptionalRecord.countAfter o k.imbalance own other
  ramped := if c.state = .releasing then c.demandAt k r else k.ramped }

/-- A ramp that ends: the gates go off and the release is reported complete. -/
theorem State.rampAndRegulate_of_ended {s : State} {st : Stage} {c : Claim} {r : BaseRecord}
    (hc : c.state = .releasing) (hz : rampStep (s.channel st).ramped r.releaseStep = 0) (h : Handle) (m : StageMap)
    (o : Option OptionalRecord) (own other : StageSample) :
    s.rampAndRegulate st h c m r o own other
      = ((s.setChannel st { s.channel st with ramped := 0 }).onStages (some m) (fun k => { k with gates := .off })).report
        st h .releaseComplete := by
  simp only [State.rampAndRegulate, hc, hz, if_true]
  rfl

/-- Otherwise a reference is formed for the raw demand of the expiry. -/
theorem State.rampAndRegulate_of_driving {s : State} {st : Stage} {c : Claim} {r : BaseRecord}
    (hd : c.state = .releasing → rampStep (s.channel st).ramped r.releaseStep ≠ 0) (h : Handle) (m : StageMap)
    (o : Option OptionalRecord) (own other : StageSample) :
    s.rampAndRegulate st h c m r o own other
      = (s.setChannel st { s.channel st with
        ramped := if c.state = .releasing then c.demandAt (s.channel st) r else (s.channel st).ramped }).regulateToward
          st h c m r o (c.demandAt (s.channel st) r) own other := by
  by_cases hc : c.state = .releasing
  · simp only [State.rampAndRegulate, Claim.demandAt, hc, hd hc, if_true, if_false]
    rfl
  · simp only [State.rampAndRegulate, Claim.demandAt, hc, if_false]
    exact congrArg (fun u : State => u.regulateToward st h c m r o c.demand own other) (s.setChannel_channel st).symm

theorem State.balanceAndRegulate_of_driving {s : State} {st : Stage} {c : Claim} {r : BaseRecord}
    {o : Option OptionalRecord} {own other : StageSample} (hb : ∀ p limit time, o = some (.pair p limit time) →
      OptionalRecord.countAfter o (s.channel st).imbalance own other < time)
    (hd : c.state = .releasing → rampStep (s.channel st).ramped r.releaseStep ≠ 0) (h : Handle) (m : StageMap) :
    s.balanceAndRegulate st h c m r o own other
      = (s.setChannel st ((s.channel st).readied c r o own other)).regulateToward st h c m r o
        (c.demandAt (s.channel st) r) own other := by
  rw [State.balanceAndRegulate_of_balanced hb,
    State.rampAndRegulate_of_driving (by rw [State.channel_setChannel_self]; exact hd),
    State.channel_setChannel_self, State.setChannel_setChannel]
  rfl

theorem rampStep_of_le {ramped : Int} {step : Nat} (h : ramped.natAbs ≤ step) : rampStep ramped step = 0 := if_pos h

/-- Settles O47. -/
theorem releaseRampEndsWithGatesOffAndReport : Obligations.ReleaseRampEndsWithGatesOffAndReport := by
  refine ⟨fun ramped step => ⟨rampStep_of_le, fun h => ?_, fun h => ?_⟩, ?_⟩
  · rw [rampStep, if_neg (by omega), if_neg (by omega)]
  · rw [rampStep, if_neg (by omega), if_pos (by omega)]
  · intro s s' st own other h m r o hs ho hf hmode hrel hm hr peak hown hother count hb hstep ramped
    obtain ⟨hchannels, -⟩ := State.readRecords_eq_channels hr
    have hchannel : s'.channel st = s.channel st := congrArg (·.get st) hchannels
    have hx : overcurrent r m own other = false := overcurrent_of_le hown hother
    have hcount : count = OptionalRecord.countAfter o (s'.channel st).imbalance own other := by
      rw [hchannel]
      rcases o with _ | _ | _ <;> rfl
    have hz : rampStep (s'.channel st).ramped r.releaseStep = 0 := by
      rw [hchannel]; exact rampStep_of_le hstep
    rw [exec_regulationExpiry_of_settled hs, State.expire_of_regulate ho hf hmode,
      State.regulate_of_within (by rw [hrel]; rfl) hm hr hx,
      State.balanceAndRegulate_of_balanced (fun p l time e => hcount ▸ hb p l time e),
      State.rampAndRegulate_of_ended hrel (by rw [State.channel_setChannel_self]; exact hz),
      State.channel_setChannel_self, State.setChannel_setChannel, State.onStages_eq, ← hcount]
    rfl

/-! ### An expiry that forms a reference (R119 to R132) -/

/-- Settles O45. -/
theorem expiryDrivesTheStagesTowardTheReference : Obligations.ExpiryDrivesTheStagesTowardTheReference := by
  intro s s' st own other h m r o hs ho hf hmode hl hm hprim hne hr c k peak hown hother count hb ramp hramp d side
    grant limit dmax reference short primary channels1
  obtain ⟨hchannels, -⟩ := State.readRecords_eq_channels hr
  have hchannel (x : Stage) : s'.channel x = s.channel x := congrArg (·.get x) hchannels
  have hx : overcurrent r m own other = false := overcurrent_of_le hown hother
  have hcount : count = OptionalRecord.countAfter o k.imbalance own other := by
    rcases o with _ | _ | _ <;> rfl
  have hd : d = c.demandAt k r := rfl
  have hgrant : grant = c.grantOn side := by
    simp only [grant]
    cases side <;> rfl
  have hreference : reference = c.referenceFor r o d := by
    simp only [reference, dmax, hgrant]
    rfl
  have hshort : short = c.shortFor r o d := by
    simp only [short, dmax, hgrant]
    rfl
  have hprimary : primary = (k.readied c r o own other).regulated c r o d own := by
    simp only [primary, hshort, hreference, hcount]
    rfl
  have hexec : exec (.regulationExpiry st own other) s
      = .next ((s'.setChannel st (k.readied c r o own other)).regulateToward st h c m r o d own other) := by
    rw [exec_regulationExpiry_of_settled hs, State.expire_of_regulate ho hf hmode,
      State.regulate_of_within hl hm hr hx, State.balanceAndRegulate_of_driving
        (fun p l time e => by rw [hchannel, ← hcount]; exact hb p l time e)
        (fun e => by rw [hchannel]; exact hramp e), hchannel]
    rfl
  have hlink : (s'.setChannel st (k.readied c r o own other)).shortNoticed st h c r o d
      = if short = true ∧ k.shortfall = 0 ∧ r.flags.shortNotice = true then s'.link.post (.short h) else s'.link := by
    rw [hshort, State.shortNoticed, State.channel_setChannel_self]
    rfl
  have hstages : (s'.setChannel st (k.readied c r o own other)).channels.set st.val primary st.isLt = channels1 := by
    simp only [State.setChannel, Vector.set_set, hchannels]
    rfl
  rw [hexec, ← hlink]
  cases hp : m.partner with
  | none =>
    rw [State.regulateToward_of_single hp, State.channel_setChannel_self, ← hprimary, hstages]
    rfl
  | some p =>
    have hps : p ≠ st := fun e => hne (e ▸ hp)
    rw [State.regulateToward_of_pair hp hps, State.channel_setChannel_self, ← hprimary,
      State.channel_setChannel_of_ne _ _ _ _ hps, hchannel, ← hreference, hstages]
    rfl

end Sys2Proof.Machine
